-- ==== Sys2Proof/Word.lean ====
section
/-! DEFINITION. The word types of the FXU (spec 00_scope.md R3, R10, R11): a 64-bit register word,
and a byte of the register window. -/

namespace Sys2Proof

/-- A 64-bit register word, the width `W` of rule R10; every register of rule R23 is one. -/
abbrev Word := BitVec 64

/-- One byte lane of the register window (rule R54). -/
abbrev Byte := BitVec 8

end Sys2Proof
end

