-- ==== Sys2Proof/Syntax.lean ====
section
/-! DEFINITION. The commands of the FXU: one constructor per row of spec/opcode_table.json (rule R74), and
the three fields of a command word (rule R70). No command carries a register number or an operand: the
conversion type and the constant index are the row's own `SEL` (rules R71, R73, R260), so every
constructor is without arguments. -/

namespace Sys2Proof

/-- The fields `OP`, `SEL` and `RSV` of a command word (30_encoding.md R70). -/
structure Command where
  /-- Bits 7:0, the operation code. -/
  op : BitVec 8
  /-- Bits 15:8, the selector. -/
  sel : BitVec 8
  /-- Bits 63:16, reserved. -/
  rsv : BitVec 48
deriving DecidableEq, Repr

/-- The legal commands (30_encoding.md R74), in the order of the opcode table. -/
inductive Instr where
  /-- `NOP`, word 0x0000: no-op command, operands none (40_arith.md R102). -/
  | nop
  /-- `ADD`, word 0x0001: value command, operands A, B (40_arith.md R103). -/
  | add
  /-- `SUB`, word 0x0002: value command, operands A, B (40_arith.md R104). -/
  | sub
  /-- `MUL`, word 0x0003: value command, operands A, B (40_arith.md R105). -/
  | mul
  /-- `DIV`, word 0x0004: value command, operands A, B (40_arith.md R106). -/
  | div
  /-- `REM`, word 0x0005: value command, operands A, B (40_arith.md R107). -/
  | rem
  /-- `NEG`, word 0x0006: value command, operands A (40_arith.md R108). -/
  | neg
  /-- `ABS`, word 0x0007: value command, operands A (40_arith.md R109). -/
  | abs
  /-- `SIGNUM`, word 0x0008: value command, operands A (40_arith.md R110). -/
  | signum
  /-- `CMPEQ`, word 0x0009: predicate command, operands A, B (40_arith.md R111). -/
  | cmpeq
  /-- `CMPNE`, word 0x000A: predicate command, operands A, B (40_arith.md R112). -/
  | cmpne
  /-- `CMPLT`, word 0x000B: predicate command, operands A, B (40_arith.md R113). -/
  | cmplt
  /-- `CMPLE`, word 0x000C: predicate command, operands A, B (40_arith.md R114). -/
  | cmple
  /-- `FLOOR`, word 0x0010: value command, operands A (41_evaluator.md R140). -/
  | floor
  /-- `CEIL`, word 0x0011: value command, operands A (41_evaluator.md R141). -/
  | ceil
  /-- `ROUND`, word 0x0012: value command, operands A (41_evaluator.md R142). -/
  | round
  /-- `TRUNC`, word 0x0013: value command, operands A (41_evaluator.md R143). -/
  | trunc
  /-- `FRACT`, word 0x0014: value command, operands A (41_evaluator.md R144). -/
  | fract
  /-- `SQRT`, word 0x0015: value command, operands A (41_evaluator.md R146). -/
  | sqrt
  /-- `SQRTC`, word 0x0016: value command, operands A (41_evaluator.md R147). -/
  | sqrtc
  /-- `EXP`, word 0x0017: value command, operands A (41_evaluator.md R152). -/
  | exp
  /-- `SIN`, word 0x0018: value command, operands A (41_evaluator.md R164). -/
  | sin
  /-- `COS`, word 0x0019: value command, operands A (41_evaluator.md R165). -/
  | cos
  /-- `TAN`, word 0x001A: value command, operands A (41_evaluator.md R167). -/
  | tan
  /-- `ASIN`, word 0x001B: value command, operands A (41_evaluator.md R173). -/
  | asin
  /-- `ACOS`, word 0x001C: value command, operands A (41_evaluator.md R174). -/
  | acos
  /-- `ATAN`, word 0x001D: value command, operands A (41_evaluator.md R172). -/
  | atan
  /-- `ATAN2`, word 0x001E: value command, operands A = y, B = x (41_evaluator.md R171). -/
  | atan2
  /-- `SINCOS`, word 0x001F: value command, operands A (41_evaluator.md R166). -/
  | sincos
  /-- `ISFINITE`, word 0x0020: predicate command, operands none (41_evaluator.md R175). -/
  | isfinite
  /-- `LN`, word 0x0030: unsupported (faults) command, operands none (41_evaluator.md R181). -/
  | ln
  /-- `LOG2`, word 0x0031: unsupported (faults) command, operands none (41_evaluator.md R182). -/
  | log2
  /-- `LOG10`, word 0x0032: unsupported (faults) command, operands none (41_evaluator.md R183). -/
  | log10
  /-- `LOG1P`, word 0x0033: unsupported (faults) command, operands none (41_evaluator.md R184). -/
  | log1p
  /-- `EXP2`, word 0x0034: unsupported (faults) command, operands none (41_evaluator.md R185). -/
  | exp2
  /-- `EXPM1`, word 0x0035: unsupported (faults) command, operands none (41_evaluator.md R186). -/
  | expm1
  /-- `CBRT`, word 0x0036: unsupported (faults) command, operands none (41_evaluator.md R187). -/
  | cbrt
  /-- `SINH`, word 0x0037: unsupported (faults) command, operands none (41_evaluator.md R188). -/
  | sinh
  /-- `COSH`, word 0x0038: unsupported (faults) command, operands none (41_evaluator.md R189). -/
  | cosh
  /-- `TANH`, word 0x0039: unsupported (faults) command, operands none (41_evaluator.md R190). -/
  | tanh
  /-- `ASINH`, word 0x003A: unsupported (faults) command, operands none (41_evaluator.md R191). -/
  | asinh
  /-- `ACOSH`, word 0x003B: unsupported (faults) command, operands none (41_evaluator.md R192). -/
  | acosh
  /-- `ATANH`, word 0x003C: unsupported (faults) command, operands none (41_evaluator.md R193). -/
  | atanh
  /-- `HYPOT`, word 0x003D: unsupported (faults) command, operands none (41_evaluator.md R194). -/
  | hypot
  /-- `POWI`, word 0x003E: unsupported (faults) command, operands none (41_evaluator.md R195). -/
  | powi
  /-- `POWF`, word 0x003F: unsupported (faults) command, operands none (41_evaluator.md R196). -/
  | powf
  /-- `POWC`, word 0x0040: unsupported (faults) command, operands none (41_evaluator.md R197). -/
  | powc
  /-- `AEQABS`, word 0x0050: predicate command, operands A, B, EPS (42_compare.md R202). -/
  | aeqabs
  /-- `AEQREL`, word 0x0051: predicate command, operands A, B, EPS, MAXREL (42_compare.md R203). -/
  | aeqrel
  /-- `AEQULP`, word 0x0052: predicate command, operands A, B, EPS, MAXULP (42_compare.md R204). -/
  | aequlp
  /-- `CVTF.I8`, word 0x0060: value command, operands A (43_convert.md R224). -/
  | cvtfI8
  /-- `CVTF.I16`, word 0x0160: value command, operands A (43_convert.md R225). -/
  | cvtfI16
  /-- `CVTF.I32`, word 0x0260: value command, operands A (43_convert.md R226). -/
  | cvtfI32
  /-- `CVTF.I64`, word 0x0360: value command, operands A (43_convert.md R227). -/
  | cvtfI64
  /-- `CVTF.ISIZE`, word 0x0460: value command, operands A (43_convert.md R228). -/
  | cvtfIsize
  /-- `CVTF.U8`, word 0x0560: value command, operands A (43_convert.md R229). -/
  | cvtfU8
  /-- `CVTF.U16`, word 0x0660: value command, operands A (43_convert.md R230). -/
  | cvtfU16
  /-- `CVTF.U32`, word 0x0760: value command, operands A (43_convert.md R231). -/
  | cvtfU32
  /-- `CVTF.U64`, word 0x0860: value command, operands A (43_convert.md R232). -/
  | cvtfU64
  /-- `CVTF.USIZE`, word 0x0960: value command, operands A (43_convert.md R233). -/
  | cvtfUsize
  /-- `CVTF.F32`, word 0x0A60: value command, operands A (43_convert.md R234). -/
  | cvtfF32
  /-- `CVTF.F64`, word 0x0B60: value command, operands A (43_convert.md R235). -/
  | cvtfF64
  /-- `CVTT.I8`, word 0x0061: value command, operands A (43_convert.md R237). -/
  | cvttI8
  /-- `CVTT.I16`, word 0x0161: value command, operands A (43_convert.md R238). -/
  | cvttI16
  /-- `CVTT.I32`, word 0x0261: value command, operands A (43_convert.md R239). -/
  | cvttI32
  /-- `CVTT.I64`, word 0x0361: value command, operands A (43_convert.md R240). -/
  | cvttI64
  /-- `CVTT.ISIZE`, word 0x0461: value command, operands A (43_convert.md R241). -/
  | cvttIsize
  /-- `CVTT.U8`, word 0x0561: value command, operands A (43_convert.md R242). -/
  | cvttU8
  /-- `CVTT.U16`, word 0x0661: value command, operands A (43_convert.md R243). -/
  | cvttU16
  /-- `CVTT.U32`, word 0x0761: value command, operands A (43_convert.md R244). -/
  | cvttU32
  /-- `CVTT.U64`, word 0x0861: value command, operands A (43_convert.md R245). -/
  | cvttU64
  /-- `CVTT.USIZE`, word 0x0961: value command, operands A (43_convert.md R246). -/
  | cvttUsize
  /-- `CVTT.F32`, word 0x0A61: value command, operands A (43_convert.md R247). -/
  | cvttF32
  /-- `CVTT.F64`, word 0x0B61: value command, operands A (43_convert.md R248). -/
  | cvttF64
  /-- `LDC ZERO`, word 0x0070: value command, operands none (44_constants.md R260). -/
  | ldcZero
  /-- `LDC ONE`, word 0x0170: value command, operands none (44_constants.md R260). -/
  | ldcOne
  /-- `LDC MIN`, word 0x0270: value command, operands none (44_constants.md R260). -/
  | ldcMin
  /-- `LDC MAX`, word 0x0370: value command, operands none (44_constants.md R260). -/
  | ldcMax
  /-- `LDC PI`, word 0x0470: value command, operands none (44_constants.md R260). -/
  | ldcPi
  /-- `LDC TWO_PI`, word 0x0570: value command, operands none (44_constants.md R260). -/
  | ldcTwoPi
  /-- `LDC FRAC_PI_2`, word 0x0670: value command, operands none (44_constants.md R260). -/
  | ldcFracPi2
  /-- `LDC FRAC_PI_3`, word 0x0770: value command, operands none (44_constants.md R260). -/
  | ldcFracPi3
  /-- `LDC FRAC_PI_4`, word 0x0870: value command, operands none (44_constants.md R260). -/
  | ldcFracPi4
  /-- `LDC FRAC_PI_6`, word 0x0970: value command, operands none (44_constants.md R260). -/
  | ldcFracPi6
  /-- `LDC FRAC_PI_8`, word 0x0A70: value command, operands none (44_constants.md R260). -/
  | ldcFracPi8
  /-- `LDC FRAC_1_PI`, word 0x0B70: value command, operands none (44_constants.md R260). -/
  | ldcFrac1Pi
  /-- `LDC FRAC_2_PI`, word 0x0C70: value command, operands none (44_constants.md R260). -/
  | ldcFrac2Pi
  /-- `LDC FRAC_2_SQRT_PI`, word 0x0D70: value command, operands none (44_constants.md R260). -/
  | ldcFrac2SqrtPi
  /-- `LDC E`, word 0x0E70: value command, operands none (44_constants.md R260). -/
  | ldcE
  /-- `LDC LOG2_E`, word 0x0F70: value command, operands none (44_constants.md R260). -/
  | ldcLog2E
  /-- `LDC LOG10_E`, word 0x1070: value command, operands none (44_constants.md R260). -/
  | ldcLog10E
  /-- `LDC LN_2`, word 0x1170: value command, operands none (44_constants.md R260). -/
  | ldcLn2
  /-- `LDC LN_10`, word 0x1270: value command, operands none (44_constants.md R260). -/
  | ldcLn10
  /-- `LDC DEFAULT_EPS`, word 0x1370: value command, operands none (44_constants.md R260). -/
  | ldcDefaultEps
deriving DecidableEq, Repr

end Sys2Proof
end

