-- ==== Sys2Proof/WellFormed.lean ====
section
/-! DEFINITION. When the fields of a command word make a legal command (30_encoding.md R70, R72, R74,
R75), written from the ranges that R74 and R75 list and not from the decoder's tables. The commands
themselves (`Instr`) have no operands, so every check falls on the fields. -/

namespace Sys2Proof

/-- `RSV` must be 0 (R70). -/
def Command.reservedOk (c : Command) : Bool := c.rsv = 0#48

/-- `OP` lies in the opcode map, read off R74's list of reserved values. -/
def Command.opOk (c : Command) : Bool :=
  let n := c.op.toNat
  !((0x0D ≤ n && n ≤ 0x0F) || (0x21 ≤ n && n ≤ 0x2F) || (0x41 ≤ n && n ≤ 0x4F) ||
    (0x53 ≤ n && n ≤ 0x5F) || (0x62 ≤ n && n ≤ 0x6F) || (0x71 ≤ n && n ≤ 0xFF))

/-- `SEL` is a type code for `CVTF` and `CVTT` (R73), a ROM index for `LDC` (R260), and 0 for every other
`OP` (R72). -/
def Command.selOk (c : Command) : Bool :=
  let n := c.sel.toNat
  if c.op = 0x60#8 ∨ c.op = 0x61#8 then n ≤ 11
  else if c.op = 0x70#8 then n ≤ 19
  else n = 0

/-- The fields make a legal command. -/
def Command.wellFormed (c : Command) : Bool := c.reservedOk && c.opOk && c.selOk

end Sys2Proof
end

