-- ==== Sys2Proof/Decode.lean ====
section
/-! DEFINITION. Decoding a command word in the order of 30_encoding.md R75, rejecting by name, and the
encoder after it (R70, R74, R77). Decoding is total on any word and on any list of bytes. -/

namespace Sys2Proof

/-- Why a word is no legal command (30_encoding.md R75). Each of the first five makes the block take the
ILLEGAL fault (60_exceptions.md R271), so rejecting is safe: the machine goes on as the rule says. -/
inductive DecodeError where
  /-- `RSV`, bits 63:16, is not zero. -/
  | reservedBits
  /-- `OP` is not in the opcode map of R74. -/
  | reservedOpcode
  /-- `CVTF` or `CVTT` with `SEL` above 11. -/
  | conversionSelector
  /-- `LDC` with `SEL` above 19. -/
  | constantSelector
  /-- `SEL` is not zero although `OP` is none of `CVTF`, `CVTT`, `LDC` (R72). -/
  | selectorNotZero
  /-- Fewer than the 8 bytes of a command word were given (R70: the length is always 64 bits). No
  access of the machine raises it: only whole words reach `CMD` (R51). -/
  | truncated
deriving DecidableEq, Repr

/-- The fields of a command word (R70). -/
def commandOfWord (w : Word) : Command :=
  { op := w.extractLsb' 0 8, sel := w.extractLsb' 8 8, rsv := w.extractLsb' 16 48 }

/-- The word `{RSV, SEL, OP}` of the fields (R70). -/
def wordOfCommand (c : Command) : Word := c.rsv ++ c.sel ++ c.op

/-- The opcode map of R74 but for `CVTF`, `CVTT` and `LDC`: the commands whose `SEL` must be 0 (R72),
by `OP`. -/
def plainCommand : Nat → Option Instr
  | 0x00 => some .nop
  | 0x01 => some .add
  | 0x02 => some .sub
  | 0x03 => some .mul
  | 0x04 => some .div
  | 0x05 => some .rem
  | 0x06 => some .neg
  | 0x07 => some .abs
  | 0x08 => some .signum
  | 0x09 => some .cmpeq
  | 0x0A => some .cmpne
  | 0x0B => some .cmplt
  | 0x0C => some .cmple
  | 0x10 => some .floor
  | 0x11 => some .ceil
  | 0x12 => some .round
  | 0x13 => some .trunc
  | 0x14 => some .fract
  | 0x15 => some .sqrt
  | 0x16 => some .sqrtc
  | 0x17 => some .exp
  | 0x18 => some .sin
  | 0x19 => some .cos
  | 0x1A => some .tan
  | 0x1B => some .asin
  | 0x1C => some .acos
  | 0x1D => some .atan
  | 0x1E => some .atan2
  | 0x1F => some .sincos
  | 0x20 => some .isfinite
  | 0x30 => some .ln
  | 0x31 => some .log2
  | 0x32 => some .log10
  | 0x33 => some .log1p
  | 0x34 => some .exp2
  | 0x35 => some .expm1
  | 0x36 => some .cbrt
  | 0x37 => some .sinh
  | 0x38 => some .cosh
  | 0x39 => some .tanh
  | 0x3A => some .asinh
  | 0x3B => some .acosh
  | 0x3C => some .atanh
  | 0x3D => some .hypot
  | 0x3E => some .powi
  | 0x3F => some .powf
  | 0x40 => some .powc
  | 0x50 => some .aeqabs
  | 0x51 => some .aeqrel
  | 0x52 => some .aequlp
  | _ => none

/-- `CVTF.<t>` by its type code `SEL` (R73). -/
def cvtfCommand : Nat → Option Instr
  | 0 => some .cvtfI8
  | 1 => some .cvtfI16
  | 2 => some .cvtfI32
  | 3 => some .cvtfI64
  | 4 => some .cvtfIsize
  | 5 => some .cvtfU8
  | 6 => some .cvtfU16
  | 7 => some .cvtfU32
  | 8 => some .cvtfU64
  | 9 => some .cvtfUsize
  | 10 => some .cvtfF32
  | 11 => some .cvtfF64
  | _ => none

/-- `CVTT.<t>` by its type code `SEL` (R73). -/
def cvttCommand : Nat → Option Instr
  | 0 => some .cvttI8
  | 1 => some .cvttI16
  | 2 => some .cvttI32
  | 3 => some .cvttI64
  | 4 => some .cvttIsize
  | 5 => some .cvttU8
  | 6 => some .cvttU16
  | 7 => some .cvttU32
  | 8 => some .cvttU64
  | 9 => some .cvttUsize
  | 10 => some .cvttF32
  | 11 => some .cvttF64
  | _ => none

/-- `LDC <k>` by the constant's index `SEL` (R260, R261). -/
def ldcCommand : Nat → Option Instr
  | 0 => some .ldcZero
  | 1 => some .ldcOne
  | 2 => some .ldcMin
  | 3 => some .ldcMax
  | 4 => some .ldcPi
  | 5 => some .ldcTwoPi
  | 6 => some .ldcFracPi2
  | 7 => some .ldcFracPi3
  | 8 => some .ldcFracPi4
  | 9 => some .ldcFracPi6
  | 10 => some .ldcFracPi8
  | 11 => some .ldcFrac1Pi
  | 12 => some .ldcFrac2Pi
  | 13 => some .ldcFrac2SqrtPi
  | 14 => some .ldcE
  | 15 => some .ldcLog2E
  | 16 => some .ldcLog10E
  | 17 => some .ldcLn2
  | 18 => some .ldcLn10
  | 19 => some .ldcDefaultEps
  | _ => none

/-- The command of the given fields, or why there is none. The order of the tests is R75's: `RSV` first,
then `OP`, then `SEL`. -/
def decodeCommand (c : Command) : Except DecodeError Instr :=
  if c.rsv ≠ 0#48 then .error .reservedBits
  else if c.op = 0x60#8 then
    match cvtfCommand c.sel.toNat with
    | some i => .ok i
    | none => .error .conversionSelector
  else if c.op = 0x61#8 then
    match cvttCommand c.sel.toNat with
    | some i => .ok i
    | none => .error .conversionSelector
  else if c.op = 0x70#8 then
    match ldcCommand c.sel.toNat with
    | some i => .ok i
    | none => .error .constantSelector
  else
    match plainCommand c.op.toNat with
    | some i => if c.sel = 0#8 then .ok i else .error .selectorNotZero
    | none => .error .reservedOpcode

/-- The command a 64-bit word is (R75). -/
def decodeWord (w : Word) : Except DecodeError Instr := decodeCommand (commandOfWord w)

/-- The byte at offset `k` of a register image: bits `8k+7:8k` (20_memory.md R54, little-endian). -/
def byteOfWord (w : Word) (k : Nat) : Byte := w.extractLsb' (8 * k) 8

/-- The eight bytes of a word, lowest offset first (R54). -/
def bytesOfWord (w : Word) : List Byte := (List.range 8).map (byteOfWord w)

/-- The number whose bytes are given, lowest offset first (R54). -/
def natOfBytes : List Byte → Nat
  | [] => 0
  | b :: bs => b.toNat + 256 * natOfBytes bs

/-- The command in the first eight bytes, lowest offset first, and the bytes after it. -/
def decodeBytes (bs : List Byte) : Except DecodeError (Instr × List Byte) :=
  if bs.length < 8 then .error .truncated
  else
    match decodeWord (BitVec.ofNat 64 (natOfBytes (bs.take 8))) with
    | .ok i => .ok (i, bs.drop 8)
    | .error e => .error e

/-- The word with the low `nbits` bits of `w`, every bit above them 0. -/
def tableWord (nbits w : Nat) : Word := BitVec.ofNat 64 (w % 2 ^ nbits)

/-- The command that the decoder reads from the word `w` of an opcode-table row of `nbits` bits, laid out
in the block's byte order (R54). -/
def decodeTableWord (nbits w : Nat) : Option Instr :=
  match decodeBytes (bytesOfWord (tableWord nbits w)) with
  | .ok (i, _) => some i
  | .error _ => none

/-- The fields of a command's word, from the opcode map of R74 and the selector codes of R73 and R261. -/
def instrFields : Instr → Command
  | .nop => ⟨0x00#8, 0#8, 0#48⟩
  | .add => ⟨0x01#8, 0#8, 0#48⟩
  | .sub => ⟨0x02#8, 0#8, 0#48⟩
  | .mul => ⟨0x03#8, 0#8, 0#48⟩
  | .div => ⟨0x04#8, 0#8, 0#48⟩
  | .rem => ⟨0x05#8, 0#8, 0#48⟩
  | .neg => ⟨0x06#8, 0#8, 0#48⟩
  | .abs => ⟨0x07#8, 0#8, 0#48⟩
  | .signum => ⟨0x08#8, 0#8, 0#48⟩
  | .cmpeq => ⟨0x09#8, 0#8, 0#48⟩
  | .cmpne => ⟨0x0A#8, 0#8, 0#48⟩
  | .cmplt => ⟨0x0B#8, 0#8, 0#48⟩
  | .cmple => ⟨0x0C#8, 0#8, 0#48⟩
  | .floor => ⟨0x10#8, 0#8, 0#48⟩
  | .ceil => ⟨0x11#8, 0#8, 0#48⟩
  | .round => ⟨0x12#8, 0#8, 0#48⟩
  | .trunc => ⟨0x13#8, 0#8, 0#48⟩
  | .fract => ⟨0x14#8, 0#8, 0#48⟩
  | .sqrt => ⟨0x15#8, 0#8, 0#48⟩
  | .sqrtc => ⟨0x16#8, 0#8, 0#48⟩
  | .exp => ⟨0x17#8, 0#8, 0#48⟩
  | .sin => ⟨0x18#8, 0#8, 0#48⟩
  | .cos => ⟨0x19#8, 0#8, 0#48⟩
  | .tan => ⟨0x1A#8, 0#8, 0#48⟩
  | .asin => ⟨0x1B#8, 0#8, 0#48⟩
  | .acos => ⟨0x1C#8, 0#8, 0#48⟩
  | .atan => ⟨0x1D#8, 0#8, 0#48⟩
  | .atan2 => ⟨0x1E#8, 0#8, 0#48⟩
  | .sincos => ⟨0x1F#8, 0#8, 0#48⟩
  | .isfinite => ⟨0x20#8, 0#8, 0#48⟩
  | .ln => ⟨0x30#8, 0#8, 0#48⟩
  | .log2 => ⟨0x31#8, 0#8, 0#48⟩
  | .log10 => ⟨0x32#8, 0#8, 0#48⟩
  | .log1p => ⟨0x33#8, 0#8, 0#48⟩
  | .exp2 => ⟨0x34#8, 0#8, 0#48⟩
  | .expm1 => ⟨0x35#8, 0#8, 0#48⟩
  | .cbrt => ⟨0x36#8, 0#8, 0#48⟩
  | .sinh => ⟨0x37#8, 0#8, 0#48⟩
  | .cosh => ⟨0x38#8, 0#8, 0#48⟩
  | .tanh => ⟨0x39#8, 0#8, 0#48⟩
  | .asinh => ⟨0x3A#8, 0#8, 0#48⟩
  | .acosh => ⟨0x3B#8, 0#8, 0#48⟩
  | .atanh => ⟨0x3C#8, 0#8, 0#48⟩
  | .hypot => ⟨0x3D#8, 0#8, 0#48⟩
  | .powi => ⟨0x3E#8, 0#8, 0#48⟩
  | .powf => ⟨0x3F#8, 0#8, 0#48⟩
  | .powc => ⟨0x40#8, 0#8, 0#48⟩
  | .aeqabs => ⟨0x50#8, 0#8, 0#48⟩
  | .aeqrel => ⟨0x51#8, 0#8, 0#48⟩
  | .aequlp => ⟨0x52#8, 0#8, 0#48⟩
  | .cvtfI8 => ⟨0x60#8, 0#8, 0#48⟩
  | .cvtfI16 => ⟨0x60#8, 1#8, 0#48⟩
  | .cvtfI32 => ⟨0x60#8, 2#8, 0#48⟩
  | .cvtfI64 => ⟨0x60#8, 3#8, 0#48⟩
  | .cvtfIsize => ⟨0x60#8, 4#8, 0#48⟩
  | .cvtfU8 => ⟨0x60#8, 5#8, 0#48⟩
  | .cvtfU16 => ⟨0x60#8, 6#8, 0#48⟩
  | .cvtfU32 => ⟨0x60#8, 7#8, 0#48⟩
  | .cvtfU64 => ⟨0x60#8, 8#8, 0#48⟩
  | .cvtfUsize => ⟨0x60#8, 9#8, 0#48⟩
  | .cvtfF32 => ⟨0x60#8, 10#8, 0#48⟩
  | .cvtfF64 => ⟨0x60#8, 11#8, 0#48⟩
  | .cvttI8 => ⟨0x61#8, 0#8, 0#48⟩
  | .cvttI16 => ⟨0x61#8, 1#8, 0#48⟩
  | .cvttI32 => ⟨0x61#8, 2#8, 0#48⟩
  | .cvttI64 => ⟨0x61#8, 3#8, 0#48⟩
  | .cvttIsize => ⟨0x61#8, 4#8, 0#48⟩
  | .cvttU8 => ⟨0x61#8, 5#8, 0#48⟩
  | .cvttU16 => ⟨0x61#8, 6#8, 0#48⟩
  | .cvttU32 => ⟨0x61#8, 7#8, 0#48⟩
  | .cvttU64 => ⟨0x61#8, 8#8, 0#48⟩
  | .cvttUsize => ⟨0x61#8, 9#8, 0#48⟩
  | .cvttF32 => ⟨0x61#8, 10#8, 0#48⟩
  | .cvttF64 => ⟨0x61#8, 11#8, 0#48⟩
  | .ldcZero => ⟨0x70#8, 0#8, 0#48⟩
  | .ldcOne => ⟨0x70#8, 1#8, 0#48⟩
  | .ldcMin => ⟨0x70#8, 2#8, 0#48⟩
  | .ldcMax => ⟨0x70#8, 3#8, 0#48⟩
  | .ldcPi => ⟨0x70#8, 4#8, 0#48⟩
  | .ldcTwoPi => ⟨0x70#8, 5#8, 0#48⟩
  | .ldcFracPi2 => ⟨0x70#8, 6#8, 0#48⟩
  | .ldcFracPi3 => ⟨0x70#8, 7#8, 0#48⟩
  | .ldcFracPi4 => ⟨0x70#8, 8#8, 0#48⟩
  | .ldcFracPi6 => ⟨0x70#8, 9#8, 0#48⟩
  | .ldcFracPi8 => ⟨0x70#8, 10#8, 0#48⟩
  | .ldcFrac1Pi => ⟨0x70#8, 11#8, 0#48⟩
  | .ldcFrac2Pi => ⟨0x70#8, 12#8, 0#48⟩
  | .ldcFrac2SqrtPi => ⟨0x70#8, 13#8, 0#48⟩
  | .ldcE => ⟨0x70#8, 14#8, 0#48⟩
  | .ldcLog2E => ⟨0x70#8, 15#8, 0#48⟩
  | .ldcLog10E => ⟨0x70#8, 16#8, 0#48⟩
  | .ldcLn2 => ⟨0x70#8, 17#8, 0#48⟩
  | .ldcLn10 => ⟨0x70#8, 18#8, 0#48⟩
  | .ldcDefaultEps => ⟨0x70#8, 19#8, 0#48⟩

/-- The command word of an instruction, `OP + 256 * SEL` (R70, R77). -/
def encode (i : Instr) : Word := wordOfCommand (instrFields i)

/-- The eight bytes of an instruction's command word as a host lays them out (R54). -/
def encodeBytes (i : Instr) : List Byte := bytesOfWord (encode i)

end Sys2Proof
end

