-- ==== Sys2Proof/Config.lean ====
section
/-! DEFINITION. The parameters of the block (spec 00_scope.md R10, R11), and the points that the spec
leaves to the platform, each an opaque constant that no proof can look into. -/

namespace Sys2Proof.Config

/-- `FB`, the fractional bits of the scalar (R3, R10). -/
def fracBits : Nat := 32

/-- `ONE = 2^32`, the raw word of the value 1.0 (R11). -/
def one : Int := 4294967296

/-- `MIN = -2^63`, the least raw value (R4). -/
def minRaw : Int := -9223372036854775808

/-- `MAX = 2^63 - 1`, the greatest raw value (R4). -/
def maxRaw : Int := 9223372036854775807

/-- `EPS_DEFAULT` = 22 raw units (R10). -/
def epsDefault : Word := 22#64

/-- `MAXREL_DEFAULT` = 22 raw units (R10). -/
def maxrelDefault : Word := 22#64

/-- `MAXULP_DEFAULT` = 4 (R10). -/
def maxulpDefault : Word := 4#64

/-- `PTR_WIDTH` = 64, the width of the pointer-sized integer types (R10). -/
def ptrWidth : Nat := 64

/-- `U8U16_SIGNED_COMPAT` is fixed at false (R10, R250): the signed results of the original entry
points are not offered, and no definition reads this parameter to offer them. -/
def u8u16SignedCompat : Bool := false

/-- Which 256-byte page of the host's address space the platform puts the window in. R10 and R50 leave
it open (log entry 8). -/
opaque fxuPage : Nat

/-- `FXU_BASE`, the byte address of the window: 256-byte aligned, otherwise open (R50, log entry 8). -/
def fxuBase : Nat := 256 * fxuPage

/-- How many clock cycles beyond the first the command word `w` takes. R308 leaves it open (log
entry 3). -/
opaque latencyBeyondFirst (w : Word) : Nat

/-- `LAT(op)`: unspecified, at least 1, and constant for a given command word (R10, R308). No
definition of the machine depends on it, as R308 says (log entry 3). -/
def lat (w : Word) : Nat := latencyBeyondFirst w + 1

/-- What the platform does with a host access made while `rst = 1`: `true`, it answers `bus_err`;
`false`, it holds the access off. R300 leaves the choice to the platform (log entry 6). -/
opaque errorDuringReset : Bool

/-- `bus_rdata` of an otherwise admitted read that the platform answers with `bus_err` while `rst = 1`. R51
gives the data 0 only to narrow and misaligned accesses, and R300 gives none, so it is a free value. The
argument is how many events are still to come, which no two such reads of a run share (log entry 15). -/
opaque readDataInReset (eventsToCome : Nat) : Word

end Sys2Proof.Config
end

