-- ==== Sys2Proof/Machine/State.lean ====
section
/-! DEFINITION. The state of the FXU (spec 10_state.md): the register window, the sequencer's hidden state,
and the block's bus and reset signals as the transactions that are still to come. The block has no
program counter (R21) and no memory of its own (20_memory.md, introduction): the window's registers are its
whole address space. -/

namespace Sys2Proof.Machine

open Sys2Proof

/-- The sequencer's own copies of the operands and parameters, read when a command is issued (R39). -/
structure Issue where
  /-- The copy of `CMD`. -/
  cmd : Word
  /-- The copy of `A`. -/
  a : Word
  /-- The copy of `B`. -/
  b : Word
  /-- The copy of `EPS`. -/
  eps : Word
  /-- The copy of `MAXREL`. -/
  maxrel : Word
  /-- The copy of `MAXULP`. -/
  maxulp : Word
deriving DecidableEq, Repr

/-- One host access on the bus port (R22, R57). -/
structure BusAccess where
  /-- `bus_addr`, the byte offset into the register window. -/
  addr : BitVec 8
  /-- `bus_size`, the access size in bytes. -/
  size : BitVec 4
  /-- `bus_we`, set for a write. -/
  we : Bool
  /-- `bus_wdata`, the data of a write. -/
  wdata : Word
deriving DecidableEq, Repr

/-- What arrives at the block from outside: a host access, or a change of the reset input. -/
inductive HostEvent where
  /-- A host access reaches the bus port (R57). -/
  | access (q : BusAccess)
  /-- The `rst` input is driven to `level` (R22, R300). -/
  | rst (level : Bool)
deriving DecidableEq, Repr

/-- The block's answer to the latest access: `bus_err` and `bus_rdata` (R22). -/
structure BusReply where
  /-- `bus_err` (R51). -/
  err : Bool
  /-- `bus_rdata` of a read; a write has no read data (log entry 5). -/
  rdata : Option Word
deriving DecidableEq, Repr

/-- The whole state of the block. -/
structure State where
  /-- `A`, offset 0x00, first operand (R24). -/
  a : Word
  /-- `B`, offset 0x08, second operand (R25). -/
  b : Word
  /-- `CMD`, offset 0x10, the last accepted command word (R26). -/
  cmd : Word
  /-- `STATUS`, offset 0x18: `T`, `V`, `FAULT`, `CAUSE` (R29). -/
  status : Word
  /-- `R`, offset 0x20, primary result (R27). -/
  r : Word
  /-- `R2`, offset 0x28, the cosine of `SINCOS` (R28). -/
  r2 : Word
  /-- `EPS`, offset 0x30, absolute epsilon (R35). -/
  eps : Word
  /-- `MAXREL`, offset 0x38, relative tolerance (R36). -/
  maxrel : Word
  /-- `MAXULP`, offset 0x40, maximum raw distance (R37). -/
  maxulp : Word
  /-- The sequencer (R39): `some` while it is busy, with its copies; `none` while it is idle. -/
  issued : Option Issue
  /-- The level of the `rst` input (R22). -/
  rst : Bool
  /-- What has arrived at the block and is not yet performed, oldest first (R57, log entry 1). -/
  inbox : List HostEvent
  /-- The answer to the latest access, `none` if there was none since reset (log entry 5). -/
  reply : Option BusReply
deriving DecidableEq, Repr

/-- Why a step can stop. The block's own fault (60_exceptions.md R272) is no stop: it is a state, with
`STATUS.FAULT` set, and the block goes on serving the host. -/
inductive Fault where
  /-- Raised by the step alone: `rst` is 1, the platform holds accesses off, an access is waiting and
  no change of `rst` is to come, so that the access has no step (R300; 93_implementation_defined.md I10
  calls it stuck). Safe: the block performs nothing in this situation. -/
  | heldInReset
deriving DecidableEq, Repr

/-- Why an instruction has no step. -/
inductive Refusal where
  /-- Raised by `exec` for an instruction without a meaning. Safe: nothing is claimed of it. No arm of
  this model raises it. -/
  | notModelled (mnemonic : String)
deriving DecidableEq, Repr

/-- The machine right after reset (R41, R300): every register at its value in the table of R23, the
sequencer idle, `rst` released, nothing arrived and nothing answered (log entries 1 and 5). -/
def State.reset : State :=
  { a := 0#64, b := 0#64, cmd := 0#64, status := 0#64, r := 0#64, r2 := 0#64
    eps := Config.epsDefault, maxrel := Config.maxrelDefault, maxulp := Config.maxulpDefault
    issued := none, rst := false, inbox := [], reply := none }

end Sys2Proof.Machine
end

