-- ==== Sys2Proof/Machine/Flags.lean ====
section
/-! DEFINITION. The fields of `STATUS` (10_state.md R29 to R34) and the ways a command writes them. There is
no carry, overflow, saturation, zero, negative, divide-by-zero or inexact flag (R34). -/

namespace Sys2Proof.Machine

open Sys2Proof

/-- The causes of the block's fault (60_exceptions.md R270); no other is ever written. -/
inductive FaultCause where
  /-- Code 1: an unsupported-function command. -/
  | unsupported
  /-- Code 2: a command word the decoder gives no meaning. -/
  | illegal
deriving DecidableEq, Repr

/-- The code that `STATUS.CAUSE` holds for a cause (R270). -/
def causeCode : FaultCause → BitVec 4
  | .unsupported => 1#4
  | .illegal => 2#4

/-- `v` with bit `k` set to `x` and every other bit unchanged. -/
def withBit (v : Word) (k : Nat) (x : Bool) : Word :=
  (v &&& ~~~(1#64 <<< k)) ||| ((BitVec.ofBool x).setWidth 64 <<< k)

/-- `STATUS.T`, bit 0: the truth value of the last predicate command (R29, R30). -/
def State.flagT (s : State) : Bool := s.status.getLsbD 0

/-- `STATUS.V`, bit 1: whether `R` holds a result (R29, R31). -/
def State.flagV (s : State) : Bool := s.status.getLsbD 1

/-- `STATUS.FAULT`, bit 8: the sticky fault state (R29, R32). -/
def State.flagFault (s : State) : Bool := s.status.getLsbD 8

/-- `STATUS.CAUSE`, bits 15:12: the cause code (R29, R33). -/
def State.cause (s : State) : BitVec 4 := s.status.extractLsb' 12 4

/-- `STATUS.T <- x`. -/
def State.setT (s : State) (x : Bool) : State := { s with status := withBit s.status 0 x }

/-- `STATUS.V <- x`. -/
def State.setV (s : State) (x : Bool) : State := { s with status := withBit s.status 1 x }

/-- `STATUS.FAULT <- 1` and `STATUS.CAUSE <- c` (R272); every other bit of `STATUS` keeps its value. -/
def State.setFault (s : State) (c : FaultCause) : State :=
  { s with
    status := (withBit s.status 8 true &&& ~~~0xF000#64) ||| ((causeCode c).setWidth 64 <<< 12) }

/-- `fault_irq`, the level output equal to `STATUS.FAULT` at all times (60_exceptions.md R275). -/
def State.faultIrq (s : State) : Bool := s.flagFault

end Sys2Proof.Machine
end

