-- ==== Sys2Proof/Machine/Operands.lean ====
section
/-! DEFINITION. Where a command's operands come from (30_encoding.md R71, 10_state.md R39,
70_reset_and_hazards.md R305) and every way of reading a 64-bit word as a number
(00_scope.md R11, 43_convert.md R220). -/

namespace Sys2Proof.Machine

open Sys2Proof

/-- `s64(u)`: a 64-bit pattern read as two's complement (R11). -/
def s64 (u : Word) : Int := u.toInt

/-- `u64(v)`: the integer `v` modulo `2^64` as a pattern (R11). -/
def u64 (v : Int) : Word := BitVec.ofInt 64 v

/-- `sext_N(u)`: the low `n` bits of `u` read as two's complement (R11, R220). -/
def sextLow (n : Nat) (u : Word) : Int := (u.setWidth n).toInt

/-- `zext_N(u)`: the low `n` bits of `u` read as unsigned (R11, R220). -/
def zextLow (n : Nat) (u : Word) : Int := ((u.setWidth n).toNat : Int)

/-- The registers a command reads, as they stand (R305). -/
def State.live (s : State) : Issue :=
  { cmd := s.cmd, a := s.a, b := s.b, eps := s.eps, maxrel := s.maxrel, maxulp := s.maxulp }

/-- What the executing command reads: the sequencer's copies (R39), and the registers themselves if
none is issued. Rule R305: latching and reading live give the same results. -/
def State.operands (s : State) : Issue :=
  match s.issued with
  | some q => q
  | none => s.live

/-- The first operand's word, for `CVTF` and `CMPEQ` (R24, R71). -/
def State.wordA (s : State) : Word := s.operands.a

/-- The second operand's word (R25, R71). -/
def State.wordB (s : State) : Word := s.operands.b

/-- `a = s64(A)`, the first operand as a scalar (R24). -/
def State.opA (s : State) : Int := s64 s.wordA

/-- `b = s64(B)`, the second operand as a scalar (R25). -/
def State.opB (s : State) : Int := s64 s.wordB

/-- `eps = s64(EPS)`, signed (R35). -/
def State.opEps (s : State) : Int := s64 s.operands.eps

/-- `mr = s64(MAXREL)`, signed (R36). -/
def State.opMaxrel (s : State) : Int := s64 s.operands.maxrel

/-- `mu = MAXULP`, unsigned (R37). -/
def State.opMaxulp (s : State) : Int := (s.operands.maxulp.toNat : Int)

end Sys2Proof.Machine
end

