-- ==== Sys2Proof/Machine/Ops.lean ====
section
/-! DEFINITION. The shared operations of the machine: saturation and the exact integer divisions
(00_scope.md R11, R12), the completion of a command (40_arith.md R100, R101), taking the block's fault
(60_exceptions.md R272) and leaving it by reset (R277, 70_reset_and_hazards.md R300), and the register
window (20_memory.md R50 to R54). -/

namespace Sys2Proof.Machine

open Sys2Proof

/-- `sat64(v)`: the value clamped to `[MIN, MAX]` (R12). -/
def sat64 (v : Int) : Int :=
  if v < Config.minRaw then Config.minRaw
  else if Config.maxRaw < v then Config.maxRaw
  else v

/-- `floor_div(a, b)`: the quotient rounded toward minus infinity (R11). -/
def floorDiv (a b : Int) : Int := Int.fdiv a b

/-- `trunc_div(a, b)`: the quotient rounded toward zero (R11). -/
def truncDiv (a b : Int) : Int := Int.tdiv a b

/-- `a >> n` on a signed integer: the arithmetic shift, equal to `floor_div(a, 2^n)` (R11). -/
def shr (a : Int) (n : Nat) : Int := a >>> n

/-- A value command completes with `res`: `R <- u64(res)`, `STATUS.V <- 1` (R100). -/
def State.completeValue (s : State) (res : Int) : State := { s.setV true with r := u64 res }

/-- A predicate command completes with `t`: `STATUS.T <- t`, `R <- (t ? 1 : 0)`, `STATUS.V <- 1`
(R101). -/
def State.completePredicate (s : State) (t : Bool) : State :=
  { (s.setT t).setV true with r := if t then 1#64 else 0#64 }

/-- Fault entry (60_exceptions.md R272): the fault state and its cause are written and nothing else
changes. There is no handler, vector or saved register in the block; `CMD` already holds the faulting
word. -/
def State.raiseFault (s : State) (c : FaultCause) : State := s.setFault c

/-- The reset state of R41, the only exit from a fault (60_exceptions.md R277). What is still to
arrive from outside is not the block's to forget. -/
def State.takeReset (s : State) (level : Bool) : State :=
  { State.reset with rst := level, inbox := s.inbox }

/-- The command has completed or faulted: the sequencer is idle and its copies are gone (R39, R304). -/
def State.retire (s : State) : State := { s with issued := none }

/-- The write of a word to `CMD` issues it (R26, R39, R305): the sequencer is busy and holds its own
copies of the operands and parameters as they stand now. -/
def State.issue (s : State) (w : Word) : State :=
  { s with cmd := w, issued := some { s.live with cmd := w } }

/-- The value of the register at an 8-byte aligned offset, 0 for a reserved one (R23, R38, R52). -/
def State.register (s : State) (off : Nat) : Word :=
  match off with
  | 0x00 => s.a
  | 0x08 => s.b
  | 0x10 => s.cmd
  | 0x18 => s.status
  | 0x20 => s.r
  | 0x28 => s.r2
  | 0x30 => s.eps
  | 0x38 => s.maxrel
  | 0x40 => s.maxulp
  | _ => 0#64

/-- The effect of an admitted write of `v` at an 8-byte aligned offset (R53). A write to `CMD` while
`STATUS.FAULT = 1` is ignored (60_exceptions.md R274); read-only and reserved offsets ignore it. -/
def State.writeRegister (s : State) (off : Nat) (v : Word) : State :=
  match off with
  | 0x00 => { s with a := v }
  | 0x08 => { s with b := v }
  | 0x10 => if s.flagFault then s else s.issue v
  | 0x30 => { s with eps := v }
  | 0x38 => { s with maxrel := v }
  | 0x40 => { s with maxulp := v }
  | _ => s

/-- The byte of the window at offset `off`: byte `off mod 8` of the register it lies in (R54). -/
def State.windowByte (s : State) (off : Nat) : Byte :=
  byteOfWord (s.register (off - off % 8)) (off % 8)

/-- Only 8-byte accesses at multiples of 8 are admitted (R51). -/
def BusAccess.admitted (q : BusAccess) : Bool := q.size = 8#4 && q.addr.toNat % 8 = 0

/-- The answer to an access that is not admitted, `bus_err` with data 0 for a read (R51). -/
def BusAccess.errorReply (q : BusAccess) : BusReply :=
  { err := true, rdata := if q.we then none else some 0#64 }

/-- The answer to an access that the platform turns away with `bus_err` while `rst` is 1 (R300), with
`eventsToCome` events after it. A narrow or misaligned access is answered as R51 says. For an otherwise
admitted read the spec states no read data: it is the free value `Config.readDataInReset` (DESIGN CHOICE,
log entry 15). A write has no read data (log entry 5). -/
def BusAccess.resetReply (q : BusAccess) (eventsToCome : Nat) : BusReply :=
  if q.admitted && !q.we then { err := true, rdata := some (Config.readDataInReset eventsToCome) }
  else q.errorReply

/-- The block performs one host access (R51 to R53). A read has no effect on any register. -/
def State.perform (s : State) (q : BusAccess) : State :=
  if q.admitted then
    if q.we then
      { s.writeRegister q.addr.toNat q.wdata with reply := some { err := false, rdata := none } }
    else { s with reply := some { err := false, rdata := some (s.register q.addr.toNat) } }
  else { s with reply := some q.errorReply }

/-- The offset that a host byte address reaches, `none` outside the window (R50). -/
def windowOffset (address : Nat) : Option (BitVec 8) :=
  if Config.fxuBase ≤ address ∧ address < Config.fxuBase + 256 then
    some (BitVec.ofNat 8 (address - Config.fxuBase))
  else none

/-- `bus_size` for an access of `n` bytes (R22): the signal carries 1, 2, 4 and 8, and no access of the
block has another size. -/
def busSize (n : Nat) : Option (BitVec 4) :=
  if n = 1 ∨ n = 2 ∨ n = 4 ∨ n = 8 then some (BitVec.ofNat 4 n) else none

/-- `MemRead(address, n)` as the access it puts on the port (R11, R50); an address outside the window
does not reach the block. A read carries no data, written here as 0. -/
def memRead (address n : Nat) : Option BusAccess :=
  match windowOffset address, busSize n with
  | some off, some size => some { addr := off, size := size, we := false, wdata := 0#64 }
  | _, _ => none

/-- `MemWrite(address, n, v)` as the access it puts on the port (R11, R50). -/
def memWrite (address n : Nat) (v : Word) : Option BusAccess :=
  match windowOffset address, busSize n with
  | some off, some size => some { addr := off, size := size, we := true, wdata := v }
  | _, _ => none

/-- `bus_ready`: low while the sequencer is busy (R22, R304, log entry 7). -/
def State.busReady (s : State) : Bool := s.issued.isNone

/-- The pending changes of the `rst` input are left out. -/
def dropResets : List HostEvent → List HostEvent
  | [] => []
  | .rst _ :: rest => dropResets rest
  | .access q :: rest => .access q :: dropResets rest

/-- The first pending change of the `rst` input and what remains without it. -/
def firstReset : List HostEvent → Option (Bool × List HostEvent)
  | [] => none
  | .rst level :: rest => some (level, rest)
  | .access q :: rest => (firstReset rest).map fun p => (p.1, .access q :: p.2)

/-- The state in which the write of `w` to `CMD` has been performed and the command is about to
execute, with `rst` low and no change of `rst` before it (log entry 2). -/
def State.withIssued (s : State) (w : Word) : State :=
  { s.issue w with rst := false, inbox := dropResets s.inbox }

end Sys2Proof.Machine
end

