-- ==== Sys2Proof/Machine/Arith.lean ====
section
/-! DEFINITION. The arithmetic core (40_arith.md): the functions on raw words, and the meanings of `NOP`,
the value commands `ADD` to `SIGNUM` and the compares. -/

namespace Sys2Proof.Machine

open Sys2Proof

/-- `ADD` on raw words (R103). -/
def addRaw (a b : Int) : Int := sat64 (a + b)

/-- `SUB` on raw words (R104). -/
def subRaw (a b : Int) : Int := sat64 (a - b)

/-- `MUL` on raw words: the exact product rounded toward minus infinity (R105). -/
def mulRaw (a b : Int) : Int := sat64 (floorDiv (a * b) (2 ^ 32))

/-- `DIV` on raw words: rounded toward zero, and by the sign of the dividend when the divisor is 0
(R106). -/
def divRaw (a b : Int) : Int :=
  if b = 0 then
    if 0 < a then Config.maxRaw else if a < 0 then Config.minRaw else 0
  else sat64 (truncDiv (a * 2 ^ 32) b)

/-- `REM` on raw words: the truncated remainder, 0 when the divisor is 0 (R107). -/
def remRaw (a b : Int) : Int := if b = 0 then 0 else a - b * truncDiv a b

/-- `NEG` on a raw word (R108). -/
def negRaw (a : Int) : Int := sat64 (-a)

/-- `ABS` on a raw word (R109). -/
def absRaw (a : Int) : Int := sat64 |a|

/-- `SIGNUM` on a raw word: a scalar, not the raw 1 (R110). -/
def signumRaw (a : Int) : Int := if 0 < a then Config.one else if a < 0 then -Config.one else 0

/-- `NOP`: no register, flag or field changes (R102). -/
def execNop (s : State) : Host.Outcome State Fault Refusal := .next s

/-- `ADD` (R103). -/
def execAdd (s : State) : Host.Outcome State Fault Refusal := .next (s.completeValue (addRaw s.opA s.opB))

/-- `SUB` (R104). -/
def execSub (s : State) : Host.Outcome State Fault Refusal := .next (s.completeValue (subRaw s.opA s.opB))

/-- `MUL` (R105). -/
def execMul (s : State) : Host.Outcome State Fault Refusal := .next (s.completeValue (mulRaw s.opA s.opB))

/-- `DIV` (R106). -/
def execDiv (s : State) : Host.Outcome State Fault Refusal := .next (s.completeValue (divRaw s.opA s.opB))

/-- `REM` (R107). -/
def execRem (s : State) : Host.Outcome State Fault Refusal := .next (s.completeValue (remRaw s.opA s.opB))

/-- `NEG` (R108). -/
def execNeg (s : State) : Host.Outcome State Fault Refusal := .next (s.completeValue (negRaw s.opA))

/-- `ABS` (R109). -/
def execAbs (s : State) : Host.Outcome State Fault Refusal := .next (s.completeValue (absRaw s.opA))

/-- `SIGNUM` (R110). -/
def execSignum (s : State) : Host.Outcome State Fault Refusal := .next (s.completeValue (signumRaw s.opA))

/-- `CMPEQ`: all 64 bits equal (R111); the exact tier of the comparator (42_compare.md R201). -/
def execCmpeq (s : State) : Host.Outcome State Fault Refusal :=
  .next (s.completePredicate (s.wordA = s.wordB))

/-- `CMPNE` (R112). -/
def execCmpne (s : State) : Host.Outcome State Fault Refusal :=
  .next (s.completePredicate (s.wordA ≠ s.wordB))

/-- `CMPLT`, signed (R113). -/
def execCmplt (s : State) : Host.Outcome State Fault Refusal := .next (s.completePredicate (s.opA < s.opB))

/-- `CMPLE`, signed (R114). -/
def execCmple (s : State) : Host.Outcome State Fault Refusal := .next (s.completePredicate (s.opA ≤ s.opB))

end Sys2Proof.Machine
end

