-- ==== Sys2Proof/Machine/Compare.lean ====
section
/-! DEFINITION. The approximate-equality comparator (42_compare.md R200 to R206). -/

namespace Sys2Proof.Machine

open Sys2Proof

/-- `ABSDIFF(a, b)`, with the block's own saturating operators (R200). -/
def absDiff (a b : Int) : Int := absRaw (subRaw a b)

/-- The absolute tier (R202). -/
def equalAbsolute (a b eps : Int) : Bool := absDiff a b ≤ eps

/-- The relative tier: the absolute tier first, and no exact test before it (R203). The pseudocode is
followed; R203's corner case, that `a = b` is false for negative `EPS` and `MAXREL`, fails at
`a = b = 0`, where the product is 0 (DEDUCED, log entry 14). -/
def equalRelative (a b eps maxrel : Int) : Bool :=
  if absDiff a b ≤ eps then true
  else absDiff a b ≤ mulRaw (max (absRaw a) (absRaw b)) maxrel

/-- The raw-distance tier in the order of R204 (90_conflicts.md C1): the absolute tier first, then the
signs, then the exact distance. The sign is raw bit 63, so zero counts as non-negative. -/
def equalUlp (a b eps maxulp : Int) : Bool :=
  if absDiff a b ≤ eps then true
  else if (a < 0) ≠ (b < 0) then false
  else |a - b| ≤ maxulp

/-- `AEQABS` (R202). -/
def execAeqabs (s : State) : Host.Outcome State Fault Refusal :=
  .next (s.completePredicate (equalAbsolute s.opA s.opB s.opEps))

/-- `AEQREL` (R203). -/
def execAeqrel (s : State) : Host.Outcome State Fault Refusal :=
  .next (s.completePredicate (equalRelative s.opA s.opB s.opEps s.opMaxrel))

/-- `AEQULP` (R204). -/
def execAequlp (s : State) : Host.Outcome State Fault Refusal :=
  .next (s.completePredicate (equalUlp s.opA s.opB s.opEps s.opMaxulp))

end Sys2Proof.Machine
end

