-- ==== Sys2Proof/Machine/Tables.lean ====
section
/-! DEFINITION. The constant ROM (44_constants.md R261) and the tables of the evaluator
(41_evaluator.md R150, R160, R161), all in raw units. -/

namespace Sys2Proof.Machine

open Sys2Proof

/-- `CONST[k]` (R261), indices 0 to 19; `SEL` above 19 is illegal and never gets here (R260). -/
def constRom : Nat → Int
  | 0 => 0
  | 1 => 4294967296
  | 2 => -9223372036854775808
  | 3 => 9223372036854775807
  | 4 => 13493037705
  | 5 => 26986075409
  | 6 => 6746518852
  | 7 => 4497679235
  | 8 => 3373259426
  | 9 => 2248839617
  | 10 => 1686629713
  | 11 => 1367130551
  | 12 => 2734261102
  | 13 => 4846351620
  | 14 => 11674931555
  | 15 => 6196328019
  | 16 => 1865280597
  | 17 => 2977044472
  | 18 => 9889527671
  | 19 => 22
  | _ => 0

/-- `PI`, the ROM entry the evaluator uses (R261, R262). -/
def piRaw : Int := 13493037705

/-- `FRAC_PI_2` (R261, R262). -/
def fracPi2 : Int := 6746518852

/-- `LN_2` (R261, R262). -/
def ln2 : Int := 2977044472

/-- `LN1P[i]` for `i = 1..32`, each with its index (R150). -/
def ln1pTable : List (Nat × Int) :=
  [(1, 1741459379), (2, 958394255), (3, 505874286), (4, 260380768),
   (5, 132163268), (6, 66589974), (7, 33424039), (8, 16744533),
   (9, 8380427), (10, 4192257), (11, 2096640), (12, 1048448),
   (13, 524256), (14, 262136), (15, 131070), (16, 65536),
   (17, 32768), (18, 16384), (19, 8192), (20, 4096),
   (21, 2048), (22, 1024), (23, 512), (24, 256),
   (25, 128), (26, 64), (27, 32), (28, 16),
   (29, 8), (30, 4), (31, 2), (32, 1)]

/-- `ATAN[i]` for `i = 0..31`, each with its index (R160). -/
def atanTable : List (Nat × Int) :=
  [(0, 3373259426), (1, 1991351318), (2, 1052175346), (3, 534100635),
   (4, 268086748), (5, 134174063), (6, 67103403), (7, 33553749),
   (8, 16777131), (9, 8388597), (10, 4194303), (11, 2097152),
   (12, 1048576), (13, 524288), (14, 262144), (15, 131072),
   (16, 65536), (17, 32768), (18, 16384), (19, 8192),
   (20, 4096), (21, 2048), (22, 1024), (23, 512),
   (24, 256), (25, 128), (26, 64), (27, 32),
   (28, 16), (29, 8), (30, 4), (31, 2)]

/-- The CORDIC gain constant `K` (R161). -/
def cordicGain : Int := 2608131496

end Sys2Proof.Machine
end

