-- ==== Sys2Proof/Machine/Constants.lean ====
section
/-! DEFINITION. `LDC <k>` for the 20 entries of the constant ROM (44_constants.md R260, R261). -/

namespace Sys2Proof.Machine

open Sys2Proof

/-- `LDC <k>`: `R <- CONST[k]`; neither `A` nor `B` is read (R260). -/
def loadConst (k : Nat) (s : State) : Host.Outcome State Fault Refusal :=
  .next (s.completeValue (constRom k))

/-- `LDC ZERO` (R260, R261). -/
def execLdcZero (s : State) : Host.Outcome State Fault Refusal := loadConst 0 s

/-- `LDC ONE` (R260, R261). -/
def execLdcOne (s : State) : Host.Outcome State Fault Refusal := loadConst 1 s

/-- `LDC MIN` (R260, R261). -/
def execLdcMin (s : State) : Host.Outcome State Fault Refusal := loadConst 2 s

/-- `LDC MAX` (R260, R261). -/
def execLdcMax (s : State) : Host.Outcome State Fault Refusal := loadConst 3 s

/-- `LDC PI` (R260, R261). -/
def execLdcPi (s : State) : Host.Outcome State Fault Refusal := loadConst 4 s

/-- `LDC TWO_PI` (R260, R261). -/
def execLdcTwoPi (s : State) : Host.Outcome State Fault Refusal := loadConst 5 s

/-- `LDC FRAC_PI_2` (R260, R261). -/
def execLdcFracPi2 (s : State) : Host.Outcome State Fault Refusal := loadConst 6 s

/-- `LDC FRAC_PI_3` (R260, R261). -/
def execLdcFracPi3 (s : State) : Host.Outcome State Fault Refusal := loadConst 7 s

/-- `LDC FRAC_PI_4` (R260, R261). -/
def execLdcFracPi4 (s : State) : Host.Outcome State Fault Refusal := loadConst 8 s

/-- `LDC FRAC_PI_6` (R260, R261). -/
def execLdcFracPi6 (s : State) : Host.Outcome State Fault Refusal := loadConst 9 s

/-- `LDC FRAC_PI_8` (R260, R261). -/
def execLdcFracPi8 (s : State) : Host.Outcome State Fault Refusal := loadConst 10 s

/-- `LDC FRAC_1_PI` (R260, R261). -/
def execLdcFrac1Pi (s : State) : Host.Outcome State Fault Refusal := loadConst 11 s

/-- `LDC FRAC_2_PI` (R260, R261). -/
def execLdcFrac2Pi (s : State) : Host.Outcome State Fault Refusal := loadConst 12 s

/-- `LDC FRAC_2_SQRT_PI` (R260, R261). -/
def execLdcFrac2SqrtPi (s : State) : Host.Outcome State Fault Refusal := loadConst 13 s

/-- `LDC E` (R260, R261). -/
def execLdcE (s : State) : Host.Outcome State Fault Refusal := loadConst 14 s

/-- `LDC LOG2_E` (R260, R261). -/
def execLdcLog2E (s : State) : Host.Outcome State Fault Refusal := loadConst 15 s

/-- `LDC LOG10_E` (R260, R261). -/
def execLdcLog10E (s : State) : Host.Outcome State Fault Refusal := loadConst 16 s

/-- `LDC LN_2` (R260, R261). -/
def execLdcLn2 (s : State) : Host.Outcome State Fault Refusal := loadConst 17 s

/-- `LDC LN_10` (R260, R261). -/
def execLdcLn10 (s : State) : Host.Outcome State Fault Refusal := loadConst 18 s

/-- `LDC DEFAULT_EPS` (R260, R261). -/
def execLdcDefaultEps (s : State) : Host.Outcome State Fault Refusal := loadConst 19 s

end Sys2Proof.Machine
end

