-- ==== Sys2Proof/Machine/Float.lean ====
section
/-! DEFINITION. The float formats of the converter (43_convert.md R221 to R223): decoding an image exactly,
truncating it to the scalar, and encoding a scalar to nearest, ties to even. -/

namespace Sys2Proof.Machine

open Sys2Proof

/-- A binary interchange format: `E` exponent bits, `M` fraction bits, and the bias (R221). -/
structure FloatFormat where
  /-- `E`. -/
  expBits : Nat
  /-- `M`; a significand has `P = M + 1` bits (R223). -/
  fracBits : Nat
  /-- The exponent bias. -/
  bias : Nat
deriving DecidableEq, Repr

/-- binary32 (R221). -/
def binary32 : FloatFormat := { expBits := 8, fracBits := 23, bias := 127 }

/-- binary64 (R221). -/
def binary64 : FloatFormat := { expBits := 11, fracBits := 52, bias := 1023 }

/-- What a float image stands for (R221). -/
inductive FloatValue where
  /-- Any NaN: quiet or signalling, any sign, any payload. -/
  | nan
  /-- An infinity, negative if `neg`. -/
  | infinity (neg : Bool)
  /-- The rational `(-1)^neg * sig * 2^exp`. -/
  | finite (neg : Bool) (sig : Nat) (exp : Int)
deriving DecidableEq, Repr

/-- `FDEC(bits, fmt)` (R221). -/
def floatDecode (fmt : FloatFormat) (bits : Nat) : FloatValue :=
  let f := bits % 2 ^ fmt.fracBits
  let e := bits / 2 ^ fmt.fracBits % 2 ^ fmt.expBits
  let s := bits / 2 ^ (fmt.fracBits + fmt.expBits) % 2 = 1
  if e = 2 ^ fmt.expBits - 1 then
    if f = 0 then .infinity s else .nan
  else if e = 0 then .finite s f (1 - fmt.bias - fmt.fracBits)
  else .finite s (2 ^ fmt.fracBits + f) ((e : Int) - fmt.bias - fmt.fracBits)

/-- The magnitude `sig * 2^exp` in raw units, `trunc(sig * 2^exp * 2^32)` (R222). -/
def truncMagnitude (sig : Nat) (exp : Int) : Nat :=
  if 0 ≤ exp + 32 then sig * 2 ^ (exp + 32).toNat else sig / 2 ^ (-(exp + 32)).toNat

/-- `TOFIX(v)` (R222): truncated toward zero, saturated, and 0 for a NaN. -/
def floatToFix : FloatValue → Int
  | .nan => 0
  | .infinity neg => if neg then Config.minRaw else Config.maxRaw
  | .finite neg sig exp =>
    sat64 (if neg then -(truncMagnitude sig exp : Int) else truncMagnitude sig exp)

/-- The number of bits of `m`, 0 for 0. -/
def bitLength (m : Nat) : Nat := if m = 0 then 0 else m.log2 + 1

/-- `m` shortened by `sh` bits to nearest, ties to even (R223). -/
def roundShift (m sh : Nat) : Nat :=
  let q := m / 2 ^ sh
  let r := m % 2 ^ sh
  if 2 * r > 2 ^ sh ∨ (2 * r = 2 ^ sh ∧ q % 2 = 1) then q + 1 else q

/-- The significand `q` and the shift `sh` of the magnitude `m` for `P` significand bits, so that the
rounded magnitude is `q * 2^sh` (R223). -/
def roundSignificand (p m : Nat) : Nat × Nat :=
  if bitLength m ≤ p then (m, 0)
  else
    let sh := bitLength m - p
    let q := roundShift m sh
    if q = 2 ^ p then (2 ^ (p - 1), sh + 1) else (q, sh)

/-- `FENC(a, fmt)` as a bit image (R223). The biased exponent is `L' - 33 + bias` with `L'` the bit
length of `q * 2^sh`; the fraction is the significand, brought to `P` bits, without its leading 1. -/
def floatEncode (fmt : FloatFormat) (a : Int) : Nat :=
  if a = 0 then 0
  else
    let p := fmt.fracBits + 1
    let (q, sh) := roundSignificand p a.natAbs
    let len := bitLength q
    let sign := if a < 0 then 1 else 0
    let biased := len + sh + fmt.bias - 33
    let fraction := q * 2 ^ (p - len) - 2 ^ fmt.fracBits
    sign * 2 ^ (fmt.fracBits + fmt.expBits) + biased * 2 ^ fmt.fracBits + fraction

end Sys2Proof.Machine
end

