-- ==== Sys2Proof/Machine/Convert.lean ====
section
/-! DEFINITION. The conversion layer (43_convert.md): `CVTF` from a primitive into the scalar and `CVTT` from
the scalar to a primitive, one meaning per type code. -/

namespace Sys2Proof.Machine

open Sys2Proof

/-- A source integer as a scalar, `sat64(v * 2^32)` (43_convert.md section 2, before R224). -/
def fixOfInt (v : Int) : Int := sat64 (v * 2 ^ 32)

/-- The integral part of a scalar, truncated toward zero and clamped to `[lo, hi]` (R236). -/
def intOfFix (lo hi a : Int) : Int := min (max (truncDiv a (2 ^ 32)) lo) hi

/-- `intOfFix` for the signed integers of `n` bits (R236). -/
def signedOfFix (n : Nat) (a : Int) : Int := intOfFix (-2 ^ (n - 1)) (2 ^ (n - 1) - 1) a

/-- `intOfFix` for the unsigned integers of `n` bits (R236, R250). -/
def unsignedOfFix (n : Nat) (a : Int) : Int := intOfFix 0 (2 ^ n - 1) a

/-- `CVTF.I8` (R224). -/
def execCvtfI8 (s : State) : Host.Outcome State Fault Refusal :=
  .next (s.completeValue (fixOfInt (sextLow 8 s.wordA)))

/-- `CVTF.I16` (R225). -/
def execCvtfI16 (s : State) : Host.Outcome State Fault Refusal :=
  .next (s.completeValue (fixOfInt (sextLow 16 s.wordA)))

/-- `CVTF.I32` (R226). -/
def execCvtfI32 (s : State) : Host.Outcome State Fault Refusal :=
  .next (s.completeValue (fixOfInt (sextLow 32 s.wordA)))

/-- `CVTF.I64` (R227). -/
def execCvtfI64 (s : State) : Host.Outcome State Fault Refusal :=
  .next (s.completeValue (fixOfInt (sextLow 64 s.wordA)))

/-- `CVTF.ISIZE` (R228). -/
def execCvtfIsize (s : State) : Host.Outcome State Fault Refusal :=
  .next (s.completeValue (fixOfInt (sextLow Config.ptrWidth s.wordA)))

/-- `CVTF.U8` (R229). -/
def execCvtfU8 (s : State) : Host.Outcome State Fault Refusal :=
  .next (s.completeValue (fixOfInt (zextLow 8 s.wordA)))

/-- `CVTF.U16` (R230). -/
def execCvtfU16 (s : State) : Host.Outcome State Fault Refusal :=
  .next (s.completeValue (fixOfInt (zextLow 16 s.wordA)))

/-- `CVTF.U32` (R231). -/
def execCvtfU32 (s : State) : Host.Outcome State Fault Refusal :=
  .next (s.completeValue (fixOfInt (zextLow 32 s.wordA)))

/-- `CVTF.U64` (R232). -/
def execCvtfU64 (s : State) : Host.Outcome State Fault Refusal :=
  .next (s.completeValue (fixOfInt (zextLow 64 s.wordA)))

/-- `CVTF.USIZE` (R233). -/
def execCvtfUsize (s : State) : Host.Outcome State Fault Refusal :=
  .next (s.completeValue (fixOfInt (zextLow Config.ptrWidth s.wordA)))

/-- `CVTF.F32` (R234). -/
def execCvtfF32 (s : State) : Host.Outcome State Fault Refusal :=
  .next (s.completeValue (floatToFix (floatDecode binary32 (s.wordA.setWidth 32).toNat)))

/-- `CVTF.F64` (R235). -/
def execCvtfF64 (s : State) : Host.Outcome State Fault Refusal :=
  .next (s.completeValue (floatToFix (floatDecode binary64 s.wordA.toNat)))

/-- `CVTT.I8` (R237). -/
def execCvttI8 (s : State) : Host.Outcome State Fault Refusal :=
  .next (s.completeValue (signedOfFix 8 s.opA))

/-- `CVTT.I16` (R238). -/
def execCvttI16 (s : State) : Host.Outcome State Fault Refusal :=
  .next (s.completeValue (signedOfFix 16 s.opA))

/-- `CVTT.I32` (R239). -/
def execCvttI32 (s : State) : Host.Outcome State Fault Refusal :=
  .next (s.completeValue (signedOfFix 32 s.opA))

/-- `CVTT.I64` (R240). -/
def execCvttI64 (s : State) : Host.Outcome State Fault Refusal :=
  .next (s.completeValue (signedOfFix 64 s.opA))

/-- `CVTT.ISIZE` (R241). -/
def execCvttIsize (s : State) : Host.Outcome State Fault Refusal :=
  .next (s.completeValue (signedOfFix Config.ptrWidth s.opA))

/-- `CVTT.U8` (R242). -/
def execCvttU8 (s : State) : Host.Outcome State Fault Refusal :=
  .next (s.completeValue (unsignedOfFix 8 s.opA))

/-- `CVTT.U16` (R243). -/
def execCvttU16 (s : State) : Host.Outcome State Fault Refusal :=
  .next (s.completeValue (unsignedOfFix 16 s.opA))

/-- `CVTT.U32` (R244). -/
def execCvttU32 (s : State) : Host.Outcome State Fault Refusal :=
  .next (s.completeValue (unsignedOfFix 32 s.opA))

/-- `CVTT.U64` (R245). -/
def execCvttU64 (s : State) : Host.Outcome State Fault Refusal :=
  .next (s.completeValue (unsignedOfFix 64 s.opA))

/-- `CVTT.USIZE` (R246). -/
def execCvttUsize (s : State) : Host.Outcome State Fault Refusal :=
  .next (s.completeValue (unsignedOfFix Config.ptrWidth s.opA))

/-- `CVTT.F32` (R247). -/
def execCvttF32 (s : State) : Host.Outcome State Fault Refusal :=
  .next (s.completeValue (floatEncode binary32 s.opA : Int))

/-- `CVTT.F64` (R248). -/
def execCvttF64 (s : State) : Host.Outcome State Fault Refusal :=
  .next (s.completeValue (floatEncode binary64 s.opA : Int))

end Sys2Proof.Machine
end

