-- ==== Sys2Proof/Machine/Exponential.lean ====
section
/-! DEFINITION. The exponential (41_evaluator.md R150 to R152). -/

namespace Sys2Proof.Machine

open Sys2Proof

/-- One iteration of the exponential on `(z, y)` for the table entry `(i, LN1P[i])` (R151). -/
def expIteration (p : Int × Int) (e : Nat × Int) : Int × Int :=
  if e.2 ≤ p.1 then (p.1 - e.2, p.2 + shr p.2 e.1) else p

/-- The 32 iterations and the residual correction on the reduced argument `z`: the mantissa `y` (R151). -/
def expMantissa (z : Int) : Int :=
  let p := ln1pTable.foldl expIteration (z, Config.one)
  p.2 + shr (p.2 * p.1) 32

/-- The final shift of the mantissa by the integer exponent `k` (R151). The shift count is held at 128,
past which neither the saturated nor the floored result changes for the mantissas that arise (log
entry 9); R151 asks of a shifter no more than counts of 0 to 33. -/
def expScale (y k : Int) : Int :=
  if 0 ≤ k then sat64 (y * 2 ^ min k.toNat 128) else shr y (min (-k).toNat 128)

/-- `EXPF(a)` (R151). -/
def expF (a : Int) : Int :=
  let k := floorDiv a ln2
  expScale (expMantissa (a - k * ln2)) k

/-- `EXP` (R152). -/
def execExp (s : State) : Host.Outcome State Fault Refusal := .next (s.completeValue (expF s.opA))

end Sys2Proof.Machine
end

