-- ==== Sys2Proof/Machine/Root.lean ====
section
/-! DEFINITION. The square root by one step per result bit (41_evaluator.md R145 to R147). -/

namespace Sys2Proof.Machine

open Sys2Proof

/-- The remaining `k` steps of the bit-by-bit root of `radicand`: each takes the next lower bit into the
root if the square stays within the radicand (R145). -/
def rootSteps (radicand : Nat) : Nat → Nat → Nat
  | 0, root => root
  | k + 1, root =>
    let next := root + 2 ^ k
    rootSteps radicand k (if next * next ≤ radicand then next else root)

/-- `SQRTF(n)`: 48 steps on the radicand `n * 2^32` (R145). -/
def sqrtF (n : Nat) : Nat := rootSteps (n * 2 ^ 32) 48 0

/-- `SQRT` (R146): the raw word read as unsigned, a negative operand too. -/
def execSqrt (s : State) : Host.Outcome State Fault Refusal :=
  .next (s.completeValue (sqrtF s.wordA.toNat))

/-- `SQRTC` (R147): for a negative operand, `R <- 0` and `STATUS.V <- 0`, "no result", which is no
fault. -/
def execSqrtc (s : State) : Host.Outcome State Fault Refusal :=
  .next (if s.opA < 0 then { s.setV false with r := 0#64 }
    else s.completeValue (sqrtF s.wordA.toNat))

end Sys2Proof.Machine
end

