-- ==== Sys2Proof/Machine/Rounding.lean ====
section
/-! DEFINITION. Rounding to an integer and the fractional part (41_evaluator.md R140 to R144). `mod` is the
non-negative remainder. -/

namespace Sys2Proof.Machine

open Sys2Proof

/-- `FLOOR` on a raw word (R140). -/
def floorRaw (a : Int) : Int := a - a % 2 ^ 32

/-- `CEIL` on a raw word (R141). -/
def ceilRaw (a : Int) : Int :=
  if a % 2 ^ 32 = 0 then a else sat64 (a - a % 2 ^ 32 + 2 ^ 32)

/-- `ROUND` on a raw word: to nearest, ties away from zero (R142). -/
def roundRaw (a : Int) : Int :=
  let r := floorDiv (|a| + 2 ^ 31) (2 ^ 32) * 2 ^ 32
  sat64 (if 0 ≤ a then r else -r)

/-- `TRUNC` on a raw word: toward zero (R143). -/
def truncRaw (a : Int) : Int :=
  if 0 ≤ a then a - a % 2 ^ 32 else -(|a| - |a| % 2 ^ 32)

/-- `FRACT` on a raw word, with the sign of the operand (R144). -/
def fractRaw (a : Int) : Int := a - truncRaw a

/-- `FLOOR` (R140). -/
def execFloor (s : State) : Host.Outcome State Fault Refusal := .next (s.completeValue (floorRaw s.opA))

/-- `CEIL` (R141). -/
def execCeil (s : State) : Host.Outcome State Fault Refusal := .next (s.completeValue (ceilRaw s.opA))

/-- `ROUND` (R142). -/
def execRound (s : State) : Host.Outcome State Fault Refusal := .next (s.completeValue (roundRaw s.opA))

/-- `TRUNC` (R143). -/
def execTrunc (s : State) : Host.Outcome State Fault Refusal := .next (s.completeValue (truncRaw s.opA))

/-- `FRACT` (R144). -/
def execFract (s : State) : Host.Outcome State Fault Refusal := .next (s.completeValue (fractRaw s.opA))

end Sys2Proof.Machine
end

