-- ==== Sys2Proof/Machine/Trig.lean ====
section
/-! DEFINITION. Circular CORDIC: sine, cosine and tangent in rotation mode, the arctangents in vectoring
mode, and the classification `ISFINITE` (41_evaluator.md R160 to R175). -/

namespace Sys2Proof.Machine

open Sys2Proof

/-- The `x`, `y`, `z` registers of the CORDIC loops; they do not survive the command (R39). -/
structure Cordic where
  /-- The `x` register. -/
  x : Int
  /-- The `y` register. -/
  y : Int
  /-- The angle register. -/
  z : Int
deriving DecidableEq, Repr

/-- Rotate by the angle `ATAN[i]`, counter-clockwise, using the values from before (R163). -/
def rotateLeft (c : Cordic) (e : Nat × Int) : Cordic :=
  { x := c.x - shr c.y e.1, y := c.y + shr c.x e.1, z := c.z - e.2 }

/-- Rotate by the angle `ATAN[i]`, clockwise, using the values from before (R163). -/
def rotateRight (c : Cordic) (e : Nat × Int) : Cordic :=
  { x := c.x + shr c.y e.1, y := c.y - shr c.x e.1, z := c.z + e.2 }

/-- The integer multiple `k` of `PI` in the argument reduction (R162). -/
def reduceQuotient (a : Int) : Int := floorDiv (a + fracPi2) piRaw

/-- The reduced angle `r` (R162). -/
def reduceAngle (a : Int) : Int := a - reduceQuotient a * piRaw

/-- One iteration in rotation mode: every step rotates (R163). -/
def rotateIteration (c : Cordic) (e : Nat × Int) : Cordic :=
  if 0 ≤ c.z then rotateLeft c e else rotateRight c e

/-- `ROTATE(r)`: 32 iterations from the gain `K` (R163); `x` is the cosine and `y` the sine. -/
def rotate (r : Int) : Cordic :=
  atanTable.foldl rotateIteration { x := cordicGain, y := 0, z := r }

/-- The sine and the cosine of `a` from one rotation, negated for an odd `k` (R164 to R166). -/
def sinCosRaw (a : Int) : Int × Int :=
  let c := rotate (reduceAngle a)
  if reduceQuotient a % 2 = 1 then (-c.y, -c.x) else (c.y, c.x)

/-- One iteration in vectoring mode, with no rotation when `y = 0` (R170). Its clockwise rotation is the
one that adds `ATAN[i]`. -/
def vectorIteration (c : Cordic) (e : Nat × Int) : Cordic :=
  if c.y < 0 then rotateLeft c e else if 0 < c.y then rotateRight c e else c

/-- Where the vectoring loop starts: a vector with negative `x` is rotated by pi first (R170). -/
def vectorStart (y x : Int) : Cordic :=
  if x < 0 then { x := -x, y := -y, z := if 0 ≤ y then piRaw else -piRaw }
  else { x := x, y := y, z := 0 }

/-- `ATAN2F(y, x)` (R170). -/
def atan2F (y x : Int) : Int :=
  if x = 0 ∧ y = 0 then 0 else (atanTable.foldl vectorIteration (vectorStart y x)).z

/-- The operand clamped to `[-1, 1]` (R173). -/
def clampOne (a : Int) : Int := min (max a (-Config.one)) Config.one

/-- `s = SQRTF(ONE - MUL(c, c))` for a clamped operand (R173). -/
def coLeg (c : Int) : Int := sqrtF (Config.one - mulRaw c c).toNat

/-- `SIN` (R164). -/
def execSin (s : State) : Host.Outcome State Fault Refusal := .next (s.completeValue (sinCosRaw s.opA).1)

/-- `COS` (R165). -/
def execCos (s : State) : Host.Outcome State Fault Refusal := .next (s.completeValue (sinCosRaw s.opA).2)

/-- `SINCOS`: `R` and `R2` are written together (R166). -/
def execSincos (s : State) : Host.Outcome State Fault Refusal :=
  .next { s.completeValue (sinCosRaw s.opA).1 with r2 := u64 (sinCosRaw s.opA).2 }

/-- `TAN`: `DIV` of the sine by the cosine; only `R` is written (R167). -/
def execTan (s : State) : Host.Outcome State Fault Refusal :=
  .next (s.completeValue (divRaw (sinCosRaw s.opA).1 (sinCosRaw s.opA).2))

/-- `ATAN2`, `y` in `A` and `x` in `B` (R171). -/
def execAtan2 (s : State) : Host.Outcome State Fault Refusal := .next (s.completeValue (atan2F s.opA s.opB))

/-- `ATAN` (R172). -/
def execAtan (s : State) : Host.Outcome State Fault Refusal := .next (s.completeValue (atan2F s.opA Config.one))

/-- `ASIN` (R173). -/
def execAsin (s : State) : Host.Outcome State Fault Refusal :=
  .next (s.completeValue (atan2F (clampOne s.opA) (coLeg (clampOne s.opA))))

/-- `ACOS` (R174). -/
def execAcos (s : State) : Host.Outcome State Fault Refusal :=
  .next (s.completeValue (atan2F (coLeg (clampOne s.opA)) (clampOne s.opA)))

/-- `ISFINITE`: true for every operand, none is read (R175). -/
def execIsfinite (s : State) : Host.Outcome State Fault Refusal := .next (s.completePredicate true)

end Sys2Proof.Machine
end

