-- ==== Sys2Proof/Machine/Unsupported.lean ====
section
/-! DEFINITION. The unsupported functions (41_evaluator.md R180 to R197): each takes the UNSUPPORTED fault,
reading no operand and writing neither `R`, `R2`, `T` nor `V`. -/

namespace Sys2Proof.Machine

open Sys2Proof

/-- `raise Fault(UNSUPPORTED)`, the fault entry of 60_exceptions.md R272 (R180). -/
def unsupportedFunction (s : State) : Host.Outcome State Fault Refusal :=
  .next (s.raiseFault .unsupported)

/-- `LN` (R181). -/
def execLn (s : State) : Host.Outcome State Fault Refusal := unsupportedFunction s

/-- `LOG2` (R182). -/
def execLog2 (s : State) : Host.Outcome State Fault Refusal := unsupportedFunction s

/-- `LOG10` (R183). -/
def execLog10 (s : State) : Host.Outcome State Fault Refusal := unsupportedFunction s

/-- `LOG1P` (R184). -/
def execLog1p (s : State) : Host.Outcome State Fault Refusal := unsupportedFunction s

/-- `EXP2` (R185). -/
def execExp2 (s : State) : Host.Outcome State Fault Refusal := unsupportedFunction s

/-- `EXPM1` (R186). -/
def execExpm1 (s : State) : Host.Outcome State Fault Refusal := unsupportedFunction s

/-- `CBRT` (R187). -/
def execCbrt (s : State) : Host.Outcome State Fault Refusal := unsupportedFunction s

/-- `SINH` (R188). -/
def execSinh (s : State) : Host.Outcome State Fault Refusal := unsupportedFunction s

/-- `COSH` (R189). -/
def execCosh (s : State) : Host.Outcome State Fault Refusal := unsupportedFunction s

/-- `TANH` (R190). -/
def execTanh (s : State) : Host.Outcome State Fault Refusal := unsupportedFunction s

/-- `ASINH` (R191). -/
def execAsinh (s : State) : Host.Outcome State Fault Refusal := unsupportedFunction s

/-- `ACOSH` (R192). -/
def execAcosh (s : State) : Host.Outcome State Fault Refusal := unsupportedFunction s

/-- `ATANH` (R193). -/
def execAtanh (s : State) : Host.Outcome State Fault Refusal := unsupportedFunction s

/-- `HYPOT` (R194). -/
def execHypot (s : State) : Host.Outcome State Fault Refusal := unsupportedFunction s

/-- `POWI` (R195). -/
def execPowi (s : State) : Host.Outcome State Fault Refusal := unsupportedFunction s

/-- `POWF` (R196). -/
def execPowf (s : State) : Host.Outcome State Fault Refusal := unsupportedFunction s

/-- `POWC` (R197). -/
def execPowc (s : State) : Host.Outcome State Fault Refusal := unsupportedFunction s

end Sys2Proof.Machine
end

