-- ==== Sys2Proof/Machine/Dispatch.lean ====
section
/-! DEFINITION. The meaning of every command, one arm per row of the opcode map (30_encoding.md R74). -/

namespace Sys2Proof.Machine

open Sys2Proof

-- The effect of a decoded command on the state in which it executes (30_encoding.md R75, last line).
def exec (i : Instr) (s : State) : Host.Outcome State Fault Refusal :=
  match i with
  | .nop => Sys2Proof.Machine.execNop s
  | .add => Sys2Proof.Machine.execAdd s
  | .sub => Sys2Proof.Machine.execSub s
  | .mul => Sys2Proof.Machine.execMul s
  | .div => Sys2Proof.Machine.execDiv s
  | .rem => Sys2Proof.Machine.execRem s
  | .neg => Sys2Proof.Machine.execNeg s
  | .abs => Sys2Proof.Machine.execAbs s
  | .signum => Sys2Proof.Machine.execSignum s
  | .cmpeq => Sys2Proof.Machine.execCmpeq s
  | .cmpne => Sys2Proof.Machine.execCmpne s
  | .cmplt => Sys2Proof.Machine.execCmplt s
  | .cmple => Sys2Proof.Machine.execCmple s
  | .floor => Sys2Proof.Machine.execFloor s
  | .ceil => Sys2Proof.Machine.execCeil s
  | .round => Sys2Proof.Machine.execRound s
  | .trunc => Sys2Proof.Machine.execTrunc s
  | .fract => Sys2Proof.Machine.execFract s
  | .sqrt => Sys2Proof.Machine.execSqrt s
  | .sqrtc => Sys2Proof.Machine.execSqrtc s
  | .exp => Sys2Proof.Machine.execExp s
  | .sin => Sys2Proof.Machine.execSin s
  | .cos => Sys2Proof.Machine.execCos s
  | .tan => Sys2Proof.Machine.execTan s
  | .asin => Sys2Proof.Machine.execAsin s
  | .acos => Sys2Proof.Machine.execAcos s
  | .atan => Sys2Proof.Machine.execAtan s
  | .atan2 => Sys2Proof.Machine.execAtan2 s
  | .sincos => Sys2Proof.Machine.execSincos s
  | .isfinite => Sys2Proof.Machine.execIsfinite s
  | .ln => Sys2Proof.Machine.execLn s
  | .log2 => Sys2Proof.Machine.execLog2 s
  | .log10 => Sys2Proof.Machine.execLog10 s
  | .log1p => Sys2Proof.Machine.execLog1p s
  | .exp2 => Sys2Proof.Machine.execExp2 s
  | .expm1 => Sys2Proof.Machine.execExpm1 s
  | .cbrt => Sys2Proof.Machine.execCbrt s
  | .sinh => Sys2Proof.Machine.execSinh s
  | .cosh => Sys2Proof.Machine.execCosh s
  | .tanh => Sys2Proof.Machine.execTanh s
  | .asinh => Sys2Proof.Machine.execAsinh s
  | .acosh => Sys2Proof.Machine.execAcosh s
  | .atanh => Sys2Proof.Machine.execAtanh s
  | .hypot => Sys2Proof.Machine.execHypot s
  | .powi => Sys2Proof.Machine.execPowi s
  | .powf => Sys2Proof.Machine.execPowf s
  | .powc => Sys2Proof.Machine.execPowc s
  | .aeqabs => Sys2Proof.Machine.execAeqabs s
  | .aeqrel => Sys2Proof.Machine.execAeqrel s
  | .aequlp => Sys2Proof.Machine.execAequlp s
  | .cvtfI8 => Sys2Proof.Machine.execCvtfI8 s
  | .cvtfI16 => Sys2Proof.Machine.execCvtfI16 s
  | .cvtfI32 => Sys2Proof.Machine.execCvtfI32 s
  | .cvtfI64 => Sys2Proof.Machine.execCvtfI64 s
  | .cvtfIsize => Sys2Proof.Machine.execCvtfIsize s
  | .cvtfU8 => Sys2Proof.Machine.execCvtfU8 s
  | .cvtfU16 => Sys2Proof.Machine.execCvtfU16 s
  | .cvtfU32 => Sys2Proof.Machine.execCvtfU32 s
  | .cvtfU64 => Sys2Proof.Machine.execCvtfU64 s
  | .cvtfUsize => Sys2Proof.Machine.execCvtfUsize s
  | .cvtfF32 => Sys2Proof.Machine.execCvtfF32 s
  | .cvtfF64 => Sys2Proof.Machine.execCvtfF64 s
  | .cvttI8 => Sys2Proof.Machine.execCvttI8 s
  | .cvttI16 => Sys2Proof.Machine.execCvttI16 s
  | .cvttI32 => Sys2Proof.Machine.execCvttI32 s
  | .cvttI64 => Sys2Proof.Machine.execCvttI64 s
  | .cvttIsize => Sys2Proof.Machine.execCvttIsize s
  | .cvttU8 => Sys2Proof.Machine.execCvttU8 s
  | .cvttU16 => Sys2Proof.Machine.execCvttU16 s
  | .cvttU32 => Sys2Proof.Machine.execCvttU32 s
  | .cvttU64 => Sys2Proof.Machine.execCvttU64 s
  | .cvttUsize => Sys2Proof.Machine.execCvttUsize s
  | .cvttF32 => Sys2Proof.Machine.execCvttF32 s
  | .cvttF64 => Sys2Proof.Machine.execCvttF64 s
  | .ldcZero => Sys2Proof.Machine.execLdcZero s
  | .ldcOne => Sys2Proof.Machine.execLdcOne s
  | .ldcMin => Sys2Proof.Machine.execLdcMin s
  | .ldcMax => Sys2Proof.Machine.execLdcMax s
  | .ldcPi => Sys2Proof.Machine.execLdcPi s
  | .ldcTwoPi => Sys2Proof.Machine.execLdcTwoPi s
  | .ldcFracPi2 => Sys2Proof.Machine.execLdcFracPi2 s
  | .ldcFracPi3 => Sys2Proof.Machine.execLdcFracPi3 s
  | .ldcFracPi4 => Sys2Proof.Machine.execLdcFracPi4 s
  | .ldcFracPi6 => Sys2Proof.Machine.execLdcFracPi6 s
  | .ldcFracPi8 => Sys2Proof.Machine.execLdcFracPi8 s
  | .ldcFrac1Pi => Sys2Proof.Machine.execLdcFrac1Pi s
  | .ldcFrac2Pi => Sys2Proof.Machine.execLdcFrac2Pi s
  | .ldcFrac2SqrtPi => Sys2Proof.Machine.execLdcFrac2SqrtPi s
  | .ldcE => Sys2Proof.Machine.execLdcE s
  | .ldcLog2E => Sys2Proof.Machine.execLdcLog2E s
  | .ldcLog10E => Sys2Proof.Machine.execLdcLog10E s
  | .ldcLn2 => Sys2Proof.Machine.execLdcLn2 s
  | .ldcLn10 => Sys2Proof.Machine.execLdcLn10 s
  | .ldcDefaultEps => Sys2Proof.Machine.execLdcDefaultEps s

end Sys2Proof.Machine
end

