-- ==== Sys2Proof/Machine/Sequencer.lean ====
section
/-! DEFINITION. What one step of the block is (10_state.md R20, R39; 20_memory.md R57;
70_reset_and_hazards.md R300, R301, R304): a change of `rst`, the execution of the issued command, or the
next host access. -/

namespace Sys2Proof.Machine

open Sys2Proof

/-- The sequencer goes idle after an outcome with a next state (R304). -/
def retireOutcome : Host.Outcome State Fault Refusal → Host.Outcome State Fault Refusal
  | .next t => .next t.retire
  | .fault e => .fault e
  | .refused e => .refused e

/-- `execute(w)` of 30_encoding.md R75: decode the word, then perform its rule, or take the ILLEGAL
fault. -/
def executeWord (w : Word) (s : State) : Host.Outcome State Fault Refusal :=
  match decodeWord w with
  | .ok i => exec i s
  | .error _ => .next (s.raiseFault .illegal)

/-- The `rst` input changes to `level`, with `rest` still to come. While it is 1, and at its release, the
block takes the reset state (R300), abandoning a command that is executing (R301). Driving an input
that is already 0 to 0 changes nothing. -/
def State.changeReset (s : State) (level : Bool) (rest : List HostEvent) : State :=
  if level || s.rst then { s with inbox := rest }.takeReset level else { s with inbox := rest }

/-- `rst` is 1 and the next event is the access `q`: it is not performed (R300). The platform either
answers it with `bus_err`, where the read data of an otherwise admitted read is a free value (DESIGN CHOICE,
log entry 15), or holds it off until a change of `rst` (log entry 6). -/
def accessInReset (s : State) (q : BusAccess) (rest : List HostEvent) :
    Host.Outcome State Fault Refusal :=
  if Config.errorDuringReset then .next { s with inbox := rest, reply := some (q.resetReply rest.length) }
  else
    match firstReset rest with
    | some (level, rest') => .next (s.changeReset level (.access q :: rest'))
    | none => .fault .heldInReset

/-- One step of the block. A change of `rst` comes first; an issued command is executed before any host
access (R304); a host access is performed when the sequencer is idle (R57); with nothing to do the
block stays as it is. -/
def stepBlock (s : State) : Host.Outcome State Fault Refusal :=
  match s.inbox with
  | .rst level :: rest => .next (s.changeReset level rest)
  | .access q :: rest =>
    if s.rst then accessInReset s q rest
    else
      match s.issued with
      | some c => retireOutcome (executeWord c.cmd s)
      | none => .next ({ s with inbox := rest }.perform q)
  | [] =>
    if s.rst then .next s
    else
      match s.issued with
      | some c => retireOutcome (executeWord c.cmd s)
      | none => .next s

end Sys2Proof.Machine
end

