-- ==== Sys2Proof/Machine/Step.lean ====
section
/-! DEFINITION. The step of the machine, and the state in which a given command word is the next thing the
sequencer executes. -/

namespace Sys2Proof.Machine

open Sys2Proof

/-- One step of the FXU. -/
def step (s : State) : Host.Outcome State Fault Refusal := stepBlock s

/-- `s` right after a host has written the word `w` to `CMD` (log entry 2). -/
def State.withFetchWord (s : State) (nbits w : Nat) : State := s.withIssued (tableWord nbits w)

end Sys2Proof.Machine
end

