-- ==== Sys2Proof/Safety.lean ====
section
/-! DEFINITION. What the statements about the machine are said in: the next states that the rules give a
command, written out without the operations of the model, and the conditions that every step keeps. -/

namespace Sys2Proof.Machine

open Sys2Proof

/-- The value nearest to `v` in `[MIN, MAX]` (00_scope.md R12). -/
def clampRaw (v : Int) : Int := max (-9223372036854775808) (min v 9223372036854775807)

/-- The state after a value command with result `res` (40_arith.md R100): `R` and `STATUS.V` (bit 1) are
written, and nothing else. -/
def State.afterValue (s : State) (res : Int) : State :=
  { s with r := BitVec.ofInt 64 res, status := s.status ||| 2#64 }

/-- The state after a predicate command with truth value `t` (40_arith.md R101): `STATUS.T` (bit 0), `R`
and `STATUS.V` (bit 1) are written, and nothing else. -/
def State.afterPredicate (s : State) (t : Bool) : State :=
  { s with
    r := if t then 1#64 else 0#64
    status := (s.status &&& ~~~1#64) ||| (if t then 3#64 else 2#64) }

/-- The state after a fault with the cause code `code` (60_exceptions.md R272): `STATUS.FAULT` (bit 8) and
`STATUS.CAUSE` (bits 15:12) are written, and nothing else. -/
def State.afterFault (s : State) (code : Word) : State :=
  { s with status := (s.status &&& ~~~0xF100#64) ||| 0x100#64 ||| (code <<< 12) }

/-- The 17 unsupported commands of 60_exceptions.md R271, in the order of their opcodes 0x30 to 0x40. -/
def unsupportedInstrs : List Instr :=
  [.ln, .log2, .log10, .log1p, .exp2, .expm1, .cbrt, .sinh, .cosh, .tanh, .asinh, .acosh, .atanh,
   .hypot, .powi, .powf, .powc]

/-- The predicate commands, kind P of 30_encoding.md R74. -/
def predicateInstrs : List Instr :=
  [.cmpeq, .cmpne, .cmplt, .cmple, .isfinite, .aeqabs, .aeqrel, .aequlp]

/-- The access is the write of the word `w` to `CMD` (30_encoding.md R77). -/
def commandWrite (w : Word) : BusAccess := { addr := 0x10#8, size := 8#4, we := true, wdata := w }

/-- No change of the `rst` input is among the events to come. -/
def noResets (events : List HostEvent) : Bool :=
  events.all fun e => match e with
    | .rst _ => false
    | .access _ => true

/-- The next event is not a change of the `rst` input. -/
def noResetNext (events : List HostEvent) : Bool := noResets (events.take 1)

/-- A run without the block's fault: `STATUS.FAULT = 0` (10_state.md R32). -/
abbrev State.Unfaulted (s : State) : Prop := s.flagFault = false

/-- The sequencer is idle, or its copies are the registers as they stand (70_reset_and_hazards.md R305). -/
abbrev State.LatchAgrees (s : State) : Prop := s.issued = none ∨ s.issued = some s.live

/-- `STATUS` is as 10_state.md R29 and R33 allow: reserved bits 0, and `CAUSE` 0 without a fault, 1 or 2 with
one. -/
abbrev State.StatusLegal (s : State) : Prop :=
  s.status &&& ~~~0xF103#64 = 0#64 ∧
    (s.flagFault = false → s.cause = 0#4) ∧
    (s.flagFault = true → s.cause = 1#4 ∨ s.cause = 2#4)

/-- A command is executing only outside reset and fault, on copies that are the registers as they stand
(R39, R304, R305; 60_exceptions.md R274). -/
abbrev State.IssueLegal (s : State) : Prop :=
  s.issued = none ∨ (s.issued = some s.live ∧ s.flagFault = false ∧ s.rst = false)

/-- Without a result, `R` is 0 (10_state.md R29: reset, or `SQRTC` of a negative operand). -/
abbrev State.NoResultIsZero (s : State) : Prop := s.flagV = false → s.r = 0#64

/-- While `rst` is 1 the block is in the reset state (70_reset_and_hazards.md R300). -/
abbrev State.HeldInResetState (s : State) : Prop :=
  s.rst = true → { s with rst := false, inbox := [], reply := none } = State.reset

/-- What every step keeps. -/
abbrev State.Inv (s : State) : Prop :=
  s.StatusLegal ∧ s.IssueLegal ∧ s.NoResultIsZero ∧ s.HeldInResetState

/-- The number of raw units in the absolute difference of two raw words, held at `MAX`
(42_compare.md R200). -/
def rawDistance (a b : Int) : Int := min |a - b| 9223372036854775807

/-- The scalar that a float image of `E` exponent bits, `M` fraction bits and the given bias stands for, in
exact rational arithmetic (43_convert.md R221, R222): 0 for a NaN, a bound for an infinity, and otherwise
the value times `2^32`, truncated toward zero and clamped. -/
def scalarOfImage (expBits fracBits bias bits : Nat) : Int :=
  let f := bits % 2 ^ fracBits
  let e := bits / 2 ^ fracBits % 2 ^ expBits
  let sign : Int := if bits / 2 ^ (fracBits + expBits) % 2 = 1 then -1 else 1
  let scale (n : Int) : Rat := (2 : Rat) ^ (n - (bias : Int) - (fracBits : Int) + 32)
  if e = 2 ^ expBits - 1 then
    if f ≠ 0 then 0 else if sign = -1 then -9223372036854775808 else 9223372036854775807
  else if e = 0 then clampRaw (sign * ⌊(f : Rat) * scale 1⌋)
  else clampRaw (sign * ⌊((2 ^ fracBits + f : Nat) : Rat) * scale e⌋)

/-- The exact rational that a finite image of `E` exponent bits, `M` fraction bits and the given bias stands
for (43_convert.md R221). -/
def imageRational (expBits fracBits bias bits : Nat) : Rat :=
  let f := bits % 2 ^ fracBits
  let e := bits / 2 ^ fracBits % 2 ^ expBits
  let sign : Rat := if bits / 2 ^ (fracBits + expBits) % 2 = 1 then -1 else 1
  let scale (n : Int) : Rat := (2 : Rat) ^ (n - (bias : Int) - (fracBits : Int))
  if e = 0 then sign * (f : Rat) * scale 1 else sign * ((2 ^ fracBits + f : Nat) : Rat) * scale e

/-- The image is that of a normal number: its exponent field is neither all zeros nor all ones
(43_convert.md R221, R223). -/
def imageNormal (expBits fracBits bits : Nat) : Prop :=
  bits / 2 ^ fracBits % 2 ^ expBits ≠ 0 ∧ bits / 2 ^ fracBits % 2 ^ expBits ≠ 2 ^ expBits - 1

/-- The raw value that `p` significand bits hold of `a`: the magnitude without its bits beyond the first
`p`, rounded to nearest, ties to even, with the sign of `a` (43_convert.md R223). -/
def nearestOfBits (p : Nat) (a : Int) : Int :=
  Int.sign a *
    (roundShift a.natAbs (Nat.size a.natAbs - p) * 2 ^ (Nat.size a.natAbs - p) : Nat)

/-- The values `LN1P[1]` to `LN1P[32]` of 41_evaluator.md R150. -/
def ruleLn1p : List Int :=
  [1741459379, 958394255, 505874286, 260380768, 132163268, 66589974, 33424039, 16744533, 8380427, 4192257,
   2096640, 1048448, 524256, 262136, 131070, 65536, 32768, 16384, 8192, 4096, 2048, 1024, 512, 256, 128, 64, 32,
   16, 8, 4, 2, 1]

/-- The loop of 41_evaluator.md R151 from iteration `i` on, with the entries that are left, on `z` and `y`. -/
def ruleExpLoop (i : Nat) : List Int → Int → Int → Int × Int
  | [], z, y => (z, y)
  | l :: rest, z, y =>
    if l ≤ z then ruleExpLoop (i + 1) rest (z - l) (y + y / 2 ^ i) else ruleExpLoop (i + 1) rest z y

/-- The mantissa that 41_evaluator.md R151 makes of the reduced argument `z`: the loop from `y = ONE`, and the
residual correction. -/
def ruleExpMantissa (z : Int) : Int :=
  let e := ruleExpLoop 1 ruleLn1p z (2 ^ 32)
  e.2 + e.2 * e.1 / 2 ^ 32

/-- The values `ATAN[0]` to `ATAN[31]` of 41_evaluator.md R160. -/
def ruleAtan : List Int :=
  [3373259426, 1991351318, 1052175346, 534100635, 268086748, 134174063, 67103403, 33553749, 16777131, 8388597,
   4194303, 2097152, 1048576, 524288, 262144, 131072, 65536, 32768, 16384, 8192, 4096, 2048, 1024, 512, 256, 128,
   64, 32, 16, 8, 4, 2]

/-- The loop of 41_evaluator.md R163 from iteration `i` on, with the entries that are left, on
`(x, y, z)`. -/
def ruleRotateLoop (i : Nat) : List Int → Int → Int → Int → Int × Int × Int
  | [], x, y, z => (x, y, z)
  | t :: rest, x, y, z =>
    if 0 ≤ z then ruleRotateLoop (i + 1) rest (x - y / 2 ^ i) (y + x / 2 ^ i) (z - t)
    else ruleRotateLoop (i + 1) rest (x + y / 2 ^ i) (y - x / 2 ^ i) (z + t)

/-- `ROTATE(r)` of 41_evaluator.md R163, with `K` of R161 and the angle that is left. -/
def ruleRotate (r : Int) : Int × Int × Int := ruleRotateLoop 0 ruleAtan 2608131496 0 r

/-- The loop of 41_evaluator.md R170 from iteration `i` on, with the entries that are left, on
`(x, y, z)`. -/
def ruleVectorLoop (i : Nat) : List Int → Int → Int → Int → Int × Int × Int
  | [], x, y, z => (x, y, z)
  | t :: rest, x, y, z =>
    if y < 0 then ruleVectorLoop (i + 1) rest (x - y / 2 ^ i) (y + x / 2 ^ i) (z - t)
    else if 0 < y then ruleVectorLoop (i + 1) rest (x + y / 2 ^ i) (y - x / 2 ^ i) (z + t)
    else ruleVectorLoop (i + 1) rest x y z

/-- `(x, y, z)` after the first `n` iterations of 41_evaluator.md R170, with its rotation by `PI` of a vector
with a negative `x` before them; all 32 from `n = 32` on. -/
def ruleVector (n : Nat) (y x : Int) : Int × Int × Int :=
  if x < 0 then
    ruleVectorLoop 0 (ruleAtan.take n) (-x) (-y) (if 0 ≤ y then 13493037705 else -13493037705)
  else ruleVectorLoop 0 (ruleAtan.take n) x y 0

/-- `ATAN2F(y, x)` of 41_evaluator.md R170. -/
def ruleAtan2 (y x : Int) : Int := if x = 0 ∧ y = 0 then 0 else (ruleVector 32 y x).2.2

/-- The raw word `a` has at most `p` significant bits (43_convert.md R249). -/
def significantBits (p : Nat) (a : Int) : Prop := ∃ (m : Int) (k : Nat), |m| < 2 ^ p ∧ a = m * 2 ^ k

/-- The block is ready for the next host access: out of reset and idle. -/
abbrev State.Idle (s : State) : Prop := s.rst = false ∧ s.issued = none

/-- The command `c` is the next thing the sequencer executes. -/
abbrev State.Executes (s : State) (c : Issue) : Prop :=
  s.rst = false ∧ noResetNext s.inbox = true ∧ s.issued = some c

end Sys2Proof.Machine
end

