-- ==== Sys2Proof/Certificates/Slice0/Obligations.lean ====
section
/-! DEFINITION. The statements for the provers, from the spec's numbered rules. -/

open Sys2Proof Sys2Proof.Machine

/-! ### Encoding -/

/-- R70 to R75: every word has at most one meaning and every command exactly one word. The decoder reads a
command from a word if and only if the word is that command's encoding. -/
def Obligations.DecodeIsInverseOfEncode : Prop :=
  ∀ (w : Word) (i : Instr), decodeWord w = .ok i ↔ w = encode i

/-- R72, R73, R74, R75: the words that decode are those whose fields lie in the ranges the rules list. -/
def Obligations.LegalWordsAreTheWellFormedOnes : Prop :=
  ∀ w : Word, (∃ i, decodeWord w = .ok i) ↔ (commandOfWord w).wellFormed = true

/-- R77 and R74: words written out from the encoding table, one or two of each family, decode to the
commands they stand for, and an illegal word of each kind to none. -/
def Obligations.WrittenWordsDecode : Prop :=
  decodeWord 0x0000000000000000#64 = .ok .nop ∧
  decodeWord 0x0000000000000001#64 = .ok .add ∧
  decodeWord 0x000000000000000B#64 = .ok .cmplt ∧
  decodeWord 0x0000000000000010#64 = .ok .floor ∧
  decodeWord 0x000000000000001F#64 = .ok .sincos ∧
  decodeWord 0x0000000000000030#64 = .ok .ln ∧
  decodeWord 0x0000000000000052#64 = .ok .aequlp ∧
  decodeWord 0x0000000000000B60#64 = .ok .cvtfF64 ∧
  decodeWord 0x0000000000000561#64 = .ok .cvttU8 ∧
  decodeWord 0x0000000000000470#64 = .ok .ldcPi ∧
  decodeWord 0x0000000000010001#64 = .error .reservedBits ∧
  decodeWord 0x000000000000000D#64 = .error .reservedOpcode ∧
  decodeWord 0x0000000000000130#64 = .error .selectorNotZero ∧
  decodeWord 0x0000000000000C60#64 = .error .conversionSelector ∧
  decodeWord 0x0000000000001470#64 = .error .constantSelector

/-- R54: laying a word out in bytes, lowest first, and reading it back loses nothing, whatever follows. -/
def Obligations.ByteLayoutKeepsTheCommand : Prop :=
  ∀ (w : Word) (i : Instr) (rest : List Byte), decodeWord w = .ok i →
    decodeBytes (bytesOfWord w ++ rest) = .ok (i, rest) ∧ decodeTableWord 64 w.toNat = some i

/-! ### Reset, the register window and the sequencer -/

/-- R41: the machine right after reset. -/
def Obligations.ResetState : Prop :=
  State.reset.a = 0#64 ∧ State.reset.b = 0#64 ∧ State.reset.cmd = 0#64 ∧ State.reset.r = 0#64 ∧
  State.reset.r2 = 0#64 ∧ State.reset.status = 0#64 ∧ State.reset.flagT = false ∧
  State.reset.flagV = false ∧ State.reset.flagFault = false ∧ State.reset.cause = 0#4 ∧
  State.reset.eps = 22#64 ∧ State.reset.maxrel = 22#64 ∧ State.reset.maxulp = 4#64 ∧
  State.reset.issued = none ∧ State.reset.faultIrq = false

/-- R301, with R300 and R277: whatever the block was doing, a command executing or a fault standing, the
rise of `rst` leaves the reset state, and so does its release. Only the level of `rst`, what is still to
arrive and the latest bus reply are not the reset state's to say. With `rst` at 1 and an access waiting
before a change of `rst`, the step does not perform the access: a platform that answers `bus_err` takes
only the access away, and the block, which is in the reset state, stays in it; a platform that holds it
off takes the change of `rst` first, which leaves the reset state with the access still waiting. The moment
of a reset, the platform's two answers and the fate of a waiting access are the model's (log entries 4, 6
and 11). -/
def Obligations.ResetAbandonsEverything : Prop :=
  ∀ (s : State) (rest : List HostEvent),
    (s.inbox = .rst true :: rest →
      ∃ t, step s = .next t ∧ t.rst = true ∧ t.inbox = rest ∧ t.faultIrq = false ∧
        { t with rst := false, inbox := [], reply := none } = State.reset) ∧
    (s.rst = true → s.inbox = .rst false :: rest →
      ∃ t, step s = .next t ∧ t.rst = false ∧ t.inbox = rest ∧ t.faultIrq = false ∧
        { t with rst := false, inbox := [], reply := none } = State.reset) ∧
    ∀ (q : BusAccess) (before after : List HostEvent) (level : Bool), s.rst = true →
      s.inbox = .access q :: rest → rest = before ++ .rst level :: after → noResets before = true →
      (Config.errorDuringReset = true →
        ∃ (t : State) (p : BusReply), step s = .next t ∧ p.err = true ∧
          t = { s with inbox := rest, reply := some p } ∧
          (s.HeldInResetState → { t with rst := false, inbox := [], reply := none } = State.reset)) ∧
      (Config.errorDuringReset = false →
        ∃ t, step s = .next t ∧ t.rst = level ∧ t.inbox = .access q :: (before ++ after) ∧
          t.faultIrq = false ∧ { t with rst := false, inbox := [], reply := none } = State.reset)

/-- R300: host accesses made while `rst = 1` are not performed. However many steps are taken, nothing of the
block changes but what waits on the bus. -/
def Obligations.NoAccessIsPerformedInReset : Prop :=
  ∀ (k : Nat) (s t : State), s.rst = true → noResets s.inbox = true →
    Host.Core.run Sys2Proof.core k s = .next t →
    t = { s with inbox := t.inbox, reply := t.reply } ∧ noResets t.inbox = true

/-- R52: an admitted read of the window returns the register at its offset, or 0 at a reserved offset, and
changes no register. -/
def Obligations.ReadReturnsTheRegister : Prop :=
  ∀ off : Nat, off < 256 → off % 8 = 0 →
    ∃ q, memRead (Config.fxuBase + off) 8 = some q ∧
      ∀ (s : State) (rest : List HostEvent), s.Idle → s.inbox = .access q :: rest →
        ∀ v : Word,
          v = (if off = 0x00 then s.a else if off = 0x08 then s.b else if off = 0x10 then s.cmd
            else if off = 0x18 then s.status else if off = 0x20 then s.r else if off = 0x28 then s.r2
            else if off = 0x30 then s.eps else if off = 0x38 then s.maxrel
            else if off = 0x40 then s.maxulp else 0#64) →
          step s = .next { s with inbox := rest, reply := some { err := false, rdata := some v } }

/-- R53, R26, R274: an admitted write of the window changes the register it names and nothing else. At
`CMD` it stores the word and issues it with the operands and parameters as they stand, unless the block
has faulted; at read-only and reserved offsets it is ignored. That the issued command executes in the
step after is the model's division of the write into two steps (log entry 3). -/
def Obligations.WriteChangesOnlyTheRegisterItNames : Prop :=
  ∀ (off : Nat) (v : Word), off < 256 → off % 8 = 0 →
    ∃ q, memWrite (Config.fxuBase + off) 8 v = some q ∧
      ∀ (s : State) (rest : List HostEvent), s.Idle → s.inbox = .access q :: rest →
        ∃ p : BusReply, p.err = false ∧ step s = .next
          (if off = 0x00 then { s with a := v, inbox := rest, reply := some p }
           else if off = 0x08 then { s with b := v, inbox := rest, reply := some p }
           else if off = 0x10 ∧ s.flagFault = false then
             { s with
               cmd := v
               issued := some ⟨v, s.a, s.b, s.eps, s.maxrel, s.maxulp⟩
               inbox := rest, reply := some p }
           else if off = 0x30 then { s with eps := v, inbox := rest, reply := some p }
           else if off = 0x38 then { s with maxrel := v, inbox := rest, reply := some p }
           else if off = 0x40 then { s with maxulp := v, inbox := rest, reply := some p }
           else { s with inbox := rest, reply := some p })

/-- R51, R278: an access of another size than 8 bytes, or at an offset that is no multiple of 8, is answered
with `bus_err`, a read with data 0; it changes no register, issues no command and sets no fault. -/
def Obligations.OtherAccessesGetBusErr : Prop :=
  ∀ (s : State) (q : BusAccess) (rest : List HostEvent), s.Idle → s.inbox = .access q :: rest →
    (q.size ≠ 8#4 ∨ q.addr.toNat % 8 ≠ 0) →
    ∃ p : BusReply, p.err = true ∧ (q.we = false → p.rdata = some 0#64) ∧
      step s = .next { s with inbox := rest, reply := some p }

/-- R54: bits `8k+7:8k` of a register are the byte at its offset plus `k`. -/
def Obligations.WindowBytesAreLittleEndian : Prop :=
  ∀ (s : State) (off k j : Nat), off % 8 = 0 → k < 8 → j < 8 →
    (s.windowByte (off + k)).getLsbD j = (s.register off).getLsbD (8 * k + j)

/-- R57: a read performed after a write to the same register returns the value written. -/
def Obligations.ReadAfterWriteReturnsTheValue : Prop :=
  ∀ (s : State) (off : BitVec 8) (v x : Word) (rest : List HostEvent), s.Idle →
    off ∈ [0x00#8, 0x08#8, 0x30#8, 0x38#8, 0x40#8] →
    s.inbox = .access ⟨off, 8#4, true, v⟩ :: .access ⟨off, 8#4, false, x⟩ :: rest →
    ∃ t, Host.Core.run Sys2Proof.core 2 s = .next t ∧ t.inbox = rest ∧
      t.reply = some { err := false, rdata := some v }

/-- R304, R56: while a command executes, the next host access waits, unanswered, until the command has
completed or faulted. -/
def Obligations.AccessWaitsWhileBusy : Prop :=
  ∀ (s : State) (c : Issue) (q : BusAccess) (rest : List HostEvent), s.rst = false →
    s.issued = some c → s.inbox = .access q :: rest →
    s.busReady = false ∧
      ∃ t, step s = .next t ∧ t.inbox = .access q :: rest ∧ t.reply = s.reply ∧ t.busReady = true

/-- The model's step around `exec` (R75, R304): when the word being executed decodes to a command, the step is
that command at that state, after which the sequencer is idle. -/
def Obligations.StepRunsTheDecodedCommand : Prop :=
  ∀ (s : State) (c : Issue) (i : Instr), s.Executes c → decodeWord c.cmd = .ok i →
    ∃ t, exec i s = .next t ∧ step s = .next { t with issued := none }

/-- R75, R26, R305: the write of a command's word to `CMD` of an idle block that has not faulted stores the
word, and the command then runs on the operands and parameters as they stood at the write, before any
later access is performed. -/
def Obligations.CommandWriteRunsTheCommand : Prop :=
  ∀ (s : State) (i : Instr) (rest : List HostEvent), s.Idle → s.flagFault = false →
    s.inbox = .access (commandWrite (encode i)) :: rest → noResetNext rest = true →
    ∃ u t, step s = .next u ∧
      u = { s with
        cmd := encode i
        issued := some ⟨encode i, s.a, s.b, s.eps, s.maxrel, s.maxulp⟩
        inbox := rest, reply := u.reply } ∧
      exec i u = .next t ∧ step u = .next { t with issued := none } ∧ t.inbox = rest

/-! ### Faults -/

/-- R271: which words fault and with which cause, and that no other word faults. -/
def Obligations.FaultsAreExactlyTheListedOnes : Prop :=
  ∀ (s : State) (c : Issue), s.Executes c → s.flagFault = false →
    ∃ t, step s = .next t ∧
      ((t.flagFault = true ∧ t.cause = 1#4) ↔ (0x30 ≤ c.cmd.toNat ∧ c.cmd.toNat ≤ 0x40)) ∧
      ((t.flagFault = true ∧ t.cause = 2#4) ↔ (commandOfWord c.cmd).wellFormed = false) ∧
      (t.flagFault = true → t.cause = 1#4 ∨ t.cause = 2#4)

/-- R272, R273 for an illegal word: the fault state is written and nothing else changes, and the
sequencer goes idle. -/
def Obligations.IllegalWordOnlyEntersTheFault : Prop :=
  ∀ (s : State) (c : Issue), s.Executes c → (commandOfWord c.cmd).wellFormed = false →
    step s = .next { s.afterFault 2#64 with issued := none }

/-- R180 (and R181 to R197): each of the 17 unsupported commands, `OP` 0x30 to 0x40, takes the fault with
cause 1 whatever the operands, and writes nothing else; its `OP` with a nonzero `SEL` is an illegal word
instead. -/
def Obligations.UnsupportedFunctionsFault : Prop :=
  ∀ (n : Nat) (h : n < unsupportedInstrs.length),
    encode unsupportedInstrs[n] = BitVec.ofNat 64 (0x30 + n) ∧
      (∀ s : State, exec unsupportedInstrs[n] s = .next (s.afterFault 1#64)) ∧
      ∀ sel : Nat, 0 < sel → sel < 256 →
        decodeWord (BitVec.ofNat 64 (0x30 + n + 256 * sel)) = .error .selectorNotZero

/-- R274, R277, R32: without a reset the fault stays for ever. However many host accesses are performed, no
command executes, and `STATUS`, `CMD`, `R`, `R2` and `fault_irq` stay as the first fault left them. -/
def Obligations.FaultIsFinalUntilReset : Prop :=
  ∀ (k : Nat) (s t : State), s.Inv → s.flagFault = true → noResets s.inbox = true →
    Host.Core.run Sys2Proof.core k s = .next t →
    t.status = s.status ∧ t.cmd = s.cmd ∧ t.r = s.r ∧ t.r2 = s.r2 ∧ t.issued = none ∧
      t.faultIrq = true

/-! ### Arithmetic core -/

/-- R102. -/
def Obligations.NopChangesNothing : Prop :=
  encode .nop = 0x0#64 ∧ ∀ s : State, exec .nop s = .next s

/-- R103, R104: the exact sum and difference, saturated. -/
def Obligations.AddAndSubSaturate : Prop :=
  encode .add = 0x1#64 ∧ encode .sub = 0x2#64 ∧
  ∀ s : State, s.LatchAgrees →
    exec .add s = .next (s.afterValue (clampRaw (s.a.toInt + s.b.toInt))) ∧
    exec .sub s = .next (s.afterValue (clampRaw (s.a.toInt - s.b.toInt)))

/-- R105: the exact product, rounded toward minus infinity (`/` on integers with a positive divisor), then
saturated. -/
def Obligations.MulFloorsAndSaturates : Prop :=
  encode .mul = 0x3#64 ∧
  ∀ s : State, s.LatchAgrees →
    exec .mul s = .next (s.afterValue (clampRaw (s.a.toInt * s.b.toInt / 2 ^ 32)))

/-- R106, R107: the quotient rounded toward zero and saturated, the remainder with the sign of the dividend,
and what both give for a zero divisor. -/
def Obligations.DivAndRemTruncate : Prop :=
  encode .div = 0x4#64 ∧ encode .rem = 0x5#64 ∧
  ∀ s : State, s.LatchAgrees →
    exec .div s = .next (s.afterValue
      (if s.b = 0#64 then
        (if 0 < s.a.toInt then 9223372036854775807
         else if s.a.toInt < 0 then -9223372036854775808 else 0)
       else clampRaw (Int.tdiv (s.a.toInt * 2 ^ 32) s.b.toInt))) ∧
    exec .rem s = .next (s.afterValue (if s.b = 0#64 then 0 else Int.tmod s.a.toInt s.b.toInt))

/-- R115, its last clause, with the size and sign of R107: on raw words the truncated quotient and the
remainder give the dividend back, and the remainder is smaller than the divisor and not of the other
sign than the dividend. -/
def Obligations.QuotientAndRemainderRecompose : Prop :=
  ∀ a b : Int, b ≠ 0 →
    a = truncDiv a b * b + remRaw a b ∧ |remRaw a b| < |b| ∧ 0 ≤ a * remRaw a b

/-- R108, R109, R110. -/
def Obligations.NegAbsAndSignum : Prop :=
  encode .neg = 0x6#64 ∧ encode .abs = 0x7#64 ∧ encode .signum = 0x8#64 ∧
  ∀ s : State, s.LatchAgrees →
    exec .neg s = .next (s.afterValue (clampRaw (-s.a.toInt))) ∧
    exec .abs s = .next (s.afterValue (clampRaw |s.a.toInt|)) ∧
    exec .signum s = .next (s.afterValue (Int.sign s.a.toInt * 2 ^ 32))

/-- R111 to R114: the two compares of words and the two signed compares. -/
def Obligations.ComparesFollowTheSignedOrder : Prop :=
  encode .cmpeq = 0x9#64 ∧ encode .cmpne = 0xA#64 ∧ encode .cmplt = 0xB#64 ∧ encode .cmple = 0xC#64 ∧
  ∀ s : State, s.LatchAgrees →
    exec .cmpeq s = .next (s.afterPredicate (decide (s.a = s.b))) ∧
    exec .cmpne s = .next (s.afterPredicate (decide (s.a ≠ s.b))) ∧
    exec .cmplt s = .next (s.afterPredicate (decide (s.a.toInt < s.b.toInt))) ∧
    exec .cmple s = .next (s.afterPredicate (decide (s.a.toInt ≤ s.b.toInt)))

/-! ### Evaluator -/

/-- R140 to R144: the five roundings as integer arithmetic on the raw word. -/
def Obligations.RoundingCommands : Prop :=
  encode .floor = 0x10#64 ∧ encode .ceil = 0x11#64 ∧ encode .round = 0x12#64 ∧
  encode .trunc = 0x13#64 ∧ encode .fract = 0x14#64 ∧
  ∀ s : State, s.LatchAgrees →
    exec .floor s = .next (s.afterValue (s.a.toInt / 2 ^ 32 * 2 ^ 32)) ∧
    exec .ceil s = .next (s.afterValue (clampRaw (-(-s.a.toInt / 2 ^ 32) * 2 ^ 32))) ∧
    exec .round s = .next (s.afterValue
      (clampRaw (Int.sign s.a.toInt * ((|s.a.toInt| + 2 ^ 31) / 2 ^ 32 * 2 ^ 32)))) ∧
    exec .trunc s = .next (s.afterValue (Int.tdiv s.a.toInt (2 ^ 32) * 2 ^ 32)) ∧
    exec .fract s = .next (s.afterValue (Int.tmod s.a.toInt (2 ^ 32)))

/-- R145: the 48 steps give the largest integer whose square stays within the radicand. -/
def Obligations.RootStepsGiveTheFloorRoot : Prop :=
  ∀ n : Nat, n < 2 ^ 64 →
    sqrtF n * sqrtF n ≤ n * 2 ^ 32 ∧ n * 2 ^ 32 < (sqrtF n + 1) * (sqrtF n + 1) ∧ sqrtF n < 2 ^ 48

/-- R146, R147: the unchecked root of the raw word read as unsigned, and the checked root, which for a
negative operand writes `R = 0` and `V = 0`. -/
def Obligations.SquareRootCommands : Prop :=
  encode .sqrt = 0x15#64 ∧ encode .sqrtc = 0x16#64 ∧
  ∀ s : State, s.LatchAgrees →
    exec .sqrt s = .next (s.afterValue (Nat.sqrt (s.a.toNat * 2 ^ 32))) ∧
    exec .sqrtc s = .next
      (if s.a.toInt < 0 then { s with r := 0#64, status := s.status &&& ~~~2#64 }
       else s.afterValue (Nat.sqrt (s.a.toNat * 2 ^ 32)))

/-- R152: `EXP` writes `EXPF` of its operand, which is never negative and never above `MAX`. -/
def Obligations.ExpCommand : Prop :=
  encode .exp = 0x17#64 ∧
  (∀ s : State, s.LatchAgrees → exec .exp s = .next (s.afterValue (expF s.a.toInt))) ∧
  ∀ a : Int, 0 ≤ expF a ∧ expF a ≤ 9223372036854775807

/-- R151, whole: the mantissa is what the rule's 32 iterations and correction make of the reduced argument,
with R150's table, and the model's bounded final shift gives exactly what the rule's unbounded one gives
(log entry 9), for every integer operand. -/
def Obligations.ExpShiftIsTheRulesShift : Prop :=
  (∀ z : Int, expMantissa z = ruleExpMantissa z) ∧
  ∀ a : Int,
    expF a =
      (if 0 ≤ a / 2977044472 then
        clampRaw (ruleExpMantissa (a % 2977044472) * 2 ^ (a / 2977044472).toNat)
       else ruleExpMantissa (a % 2977044472) / 2 ^ (-(a / 2977044472)).toNat)

/-- R151: after the loop and the correction the mantissa `y` of a reduced argument has `2^32 <= y < 2^33`; the
loop uses the argument up, so that the residual `z` is 0 and the mantissa is the loop's `y`; and R152's
thresholds: the smallest operand with result `MAX` and the largest with result 0. -/
def Obligations.ExpMantissaBoundsAndThresholds : Prop :=
  (∀ z : Int, 0 ≤ z → z < 2977044472 →
    2 ^ 32 ≤ expMantissa z ∧ expMantissa z < 2 ^ 33 ∧
      ruleExpLoop 1 ruleLn1p z (2 ^ 32) = (0, expMantissa z)) ∧
  (∀ a : Int, expF a = 9223372036854775807 ↔ 0x157CD0E708 ≤ a) ∧
  (∀ a : Int, expF a = 0 ↔ a ≤ (0xFFFFFFE9D1BD00FF#64).toInt)

/-- R151's bounds on the exponent: the result is `MAX` for every `k >= 31`, and 0 for every `k <= -34`, that
is below `-33 * LN_2`. -/
def Obligations.ExpSaturatesAndUnderflows : Prop :=
  ∀ a : Int, (31 ≤ a / 2977044472 → expF a = 9223372036854775807) ∧
    (a / 2977044472 ≤ -34 → expF a = 0) ∧ (a < -33 * 2977044472 → expF a = 0)

/-- R164 to R167: one rotation of the angle reduced by the rule's `k` gives sine and cosine, negated for an
odd `k`; `SINCOS` writes both, `TAN` divides them by the rule of `DIV`. -/
def Obligations.SineCosineAndTangent : Prop :=
  encode .sin = 0x18#64 ∧ encode .cos = 0x19#64 ∧ encode .tan = 0x1A#64 ∧ encode .sincos = 0x1F#64 ∧
  ∀ (s : State) (k x y : Int), s.LatchAgrees → k = (s.a.toInt + 6746518852) / 13493037705 →
    x = (if k % 2 = 1 then -1 else 1) * (ruleRotate (s.a.toInt - k * 13493037705)).1 →
    y = (if k % 2 = 1 then -1 else 1) * (ruleRotate (s.a.toInt - k * 13493037705)).2.1 →
    exec .sin s = .next (s.afterValue y) ∧
    exec .cos s = .next (s.afterValue x) ∧
    exec .sincos s = .next { s.afterValue y with r2 := BitVec.ofInt 64 x } ∧
    exec .tan s = .next (s.afterValue
      (if x = 0 then
        (if 0 < y then 9223372036854775807 else if y < 0 then -9223372036854775808 else 0)
       else clampRaw (Int.tdiv (y * 2 ^ 32) x)))

/-- R162: the reduced angle lies in the convergence range and differs from the operand by a multiple of
`PI`. -/
def Obligations.ArgumentReductionRange : Prop :=
  ∀ a : Int, a = reduceQuotient a * 13493037705 + reduceAngle a ∧
    -6746518852 ≤ reduceAngle a ∧ reduceAngle a < 6746518853

/-- R163: the rotation is the rule's loop, with the gain of R161 and the table of R160. On the reduced range
its registers stay below `2^34` in magnitude before and after every iteration (the `n` first iterations for
every `n`, which from 32 on are all of them), and the angle it leaves is at most 2 raw units. -/
def Obligations.RotationStaysBelow34Bits : Prop :=
  (∀ r : Int, ((rotate r).x, (rotate r).y, (rotate r).z) = ruleRotate r) ∧
  ∀ r : Int, -6746518852 ≤ r → r < 6746518853 →
    (∀ (n : Nat) (c : Cordic), c = (atanTable.take n).foldl rotateIteration ⟨2608131496, 0, r⟩ →
      |c.x| < 2 ^ 34 ∧ |c.y| < 2 ^ 34 ∧ |c.z| < 2 ^ 34) ∧
    |(rotate r).x| < 2 ^ 34 ∧ |(rotate r).y| < 2 ^ 34 ∧ |(rotate r).z| ≤ 2

/-- R164, R165, R166: sine and cosine never saturate: read back as raw words, `R` and `R2` are the exact
values of the rotation, below `2^34` in magnitude, from every state. -/
def Obligations.SineAndCosineFitTheWord : Prop :=
  ∀ s : State, ∃ t, exec .sincos s = .next t ∧
    t.r.toInt = (sinCosRaw s.opA).1 ∧ t.r2.toInt = (sinCosRaw s.opA).2 ∧
    |t.r.toInt| < 2 ^ 34 ∧ |t.r2.toInt| < 2 ^ 34

/-- R171 to R174: the arctangents by the vectoring function, the arcsine and arccosine of the clamped operand
with the root of the rule as the other leg. -/
def Obligations.InverseTrigonometricCommands : Prop :=
  encode .asin = 0x1B#64 ∧ encode .acos = 0x1C#64 ∧ encode .atan = 0x1D#64 ∧ encode .atan2 = 0x1E#64 ∧
  ∀ (s : State) (c : Int) (leg : Nat), s.LatchAgrees →
    c = max (-(2 ^ 32)) (min s.a.toInt (2 ^ 32)) →
    leg = Nat.sqrt ((2 ^ 32 - c * c / 2 ^ 32).toNat * 2 ^ 32) →
    exec .atan2 s = .next (s.afterValue (ruleAtan2 s.a.toInt s.b.toInt)) ∧
    exec .atan s = .next (s.afterValue (ruleAtan2 s.a.toInt (2 ^ 32))) ∧
    exec .asin s = .next (s.afterValue (ruleAtan2 c leg)) ∧
    exec .acos s = .next (s.afterValue (ruleAtan2 leg c))

/-- R170: every exact axis angle on the horizontal axis is exact, for vectors of any length. -/
def Obligations.VectoringIsExactOnTheAxis : Prop :=
  ∀ x : Int, (0 ≤ x → atan2F 0 x = 0) ∧ (x < 0 → atan2F 0 x = 13493037705)

/-- R170: the vectoring function is the rule's loop. The loop keeps `x` and `y` below `2^65` in magnitude before
and after every iteration, for 64-bit operands, and drives `y` down to `x / 2^31` and 32 raw units. The
result stays within the sum of the table from 0 for `x >= 0`, from `PI` for `x < 0` and `y >= 0`, and from
`-PI` for `x < 0` and `y < 0`, so that it never saturates. -/
def Obligations.VectoringAngleIsBounded : Prop :=
  (∀ y x : Int, atan2F y x = ruleAtan2 y x) ∧
  (∀ (n : Nat) (y x : Int), -2 ^ 63 ≤ y → y < 2 ^ 63 → -2 ^ 63 ≤ x → x < 2 ^ 63 →
    |(ruleVector n y x).1| < 2 ^ 65 ∧ |(ruleVector n y x).2.1| < 2 ^ 65) ∧
  (∀ y x : Int, |(ruleVector 32 y x).2.1| * 2 ^ 31 ≤ (ruleVector 32 y x).1 + 32 * 2 ^ 31) ∧
  (∀ y x : Int,
    |atan2F y x - (if 0 ≤ x then 0 else if 0 ≤ y then 13493037705 else -13493037705)| ≤ 7487359021) ∧
  ∀ y x : Int, |atan2F y x| ≤ 13493037705 + 7487359021

/-- R175. -/
def Obligations.IsFiniteIsAlwaysTrue : Prop :=
  encode .isfinite = 0x20#64 ∧ ∀ s : State, exec .isfinite s = .next (s.afterPredicate true)

/-! ### Comparator -/

/-- R200, whose symmetry and range the spec marks as its own inference: the saturating distance is the exact one held at `MAX`, symmetric, and in `[0, MAX]`. -/
def Obligations.AbsDiffIsTheClampedDistance : Prop :=
  ∀ a b : Int, absDiff a b = rawDistance a b ∧ absDiff a b = absDiff b a ∧
    0 ≤ absDiff a b ∧ absDiff a b ≤ 9223372036854775807

/-- R202. -/
def Obligations.AbsoluteTier : Prop :=
  encode .aeqabs = 0x50#64 ∧
  ∀ s : State, s.LatchAgrees → exec .aeqabs s = .next (s.afterPredicate
    (decide (rawDistance s.a.toInt s.b.toInt ≤ s.eps.toInt)))

/-- R203, its pseudocode. Its corner case, that `a = b` gives false whenever `EPS < 0` and `MAXREL < 0`,
fails at `a = b = 0`, where the pseudocode's bound `MUL(0, mr)` is 0 and `T` is 1 (DEDUCED: that the pseudocode
wins there is the model's choice, log entry 14). -/
def Obligations.RelativeTier : Prop :=
  encode .aeqrel = 0x51#64 ∧
  ∀ s : State, s.LatchAgrees → exec .aeqrel s = .next (s.afterPredicate
    (decide (rawDistance s.a.toInt s.b.toInt ≤ s.eps.toInt ∨
      rawDistance s.a.toInt s.b.toInt ≤
        clampRaw (max (clampRaw |s.a.toInt|) (clampRaw |s.b.toInt|) * s.maxrel.toInt / 2 ^ 32))))

/-- R204, in the order of 90_conflicts.md C1: the absolute tier, then the sign bits, then the exact distance
against the unsigned `MAXULP`. -/
def Obligations.UlpTier : Prop :=
  encode .aequlp = 0x52#64 ∧
  ∀ s : State, s.LatchAgrees → exec .aequlp s = .next (s.afterPredicate
    (decide (rawDistance s.a.toInt s.b.toInt ≤ s.eps.toInt ∨
      (s.a.msb = s.b.msb ∧ |s.a.toInt - s.b.toInt| ≤ (s.maxulp.toNat : Int)))))

/-- R205, with R115's commutativity of `ADD` and `MUL`: exchanging `A` and `B` changes neither `T` nor
`R`. -/
def Obligations.SymmetricCommands : Prop :=
  ∀ i ∈ [Instr.add, .mul, .cmpeq, .cmpne, .aeqabs, .aeqrel, .aequlp],
    ∀ s : State, s.issued = none →
      ∃ t u, exec i s = .next t ∧ exec i { s with a := s.b, b := s.a } = .next u ∧
        u.r = t.r ∧ u.flagT = t.flagT ∧ u.flagV = t.flagV

/-! ### Conversion -/

/-- R224 to R233: the low bits of `A` as a two's-complement (`Int.bmod`) or unsigned (`%`) integer, times
`2^32`, saturated. -/
def Obligations.ConvertFromIntegers : Prop :=
  [Instr.cvtfI8, .cvtfI16, .cvtfI32, .cvtfI64, .cvtfIsize, .cvtfU8, .cvtfU16, .cvtfU32, .cvtfU64,
    .cvtfUsize].map encode =
    [0x060#64, 0x160#64, 0x260#64, 0x360#64, 0x460#64, 0x560#64, 0x660#64, 0x760#64, 0x860#64,
      0x960#64] ∧
  ∀ s : State, s.LatchAgrees →
    exec .cvtfI8 s = .next (s.afterValue (Int.bmod s.a.toNat (2 ^ 8) * 2 ^ 32)) ∧
    exec .cvtfI16 s = .next (s.afterValue (Int.bmod s.a.toNat (2 ^ 16) * 2 ^ 32)) ∧
    exec .cvtfI32 s = .next (s.afterValue (Int.bmod s.a.toNat (2 ^ 32) * 2 ^ 32)) ∧
    exec .cvtfI64 s = .next (s.afterValue (clampRaw (Int.bmod s.a.toNat (2 ^ 64) * 2 ^ 32))) ∧
    exec .cvtfIsize s = .next (s.afterValue (clampRaw (Int.bmod s.a.toNat (2 ^ 64) * 2 ^ 32))) ∧
    exec .cvtfU8 s = .next (s.afterValue ((s.a.toNat % 2 ^ 8 : Nat) * 2 ^ 32)) ∧
    exec .cvtfU16 s = .next (s.afterValue ((s.a.toNat % 2 ^ 16 : Nat) * 2 ^ 32)) ∧
    exec .cvtfU32 s = .next (s.afterValue (clampRaw ((s.a.toNat % 2 ^ 32 : Nat) * 2 ^ 32))) ∧
    exec .cvtfU64 s = .next (s.afterValue (clampRaw (s.a.toNat * 2 ^ 32))) ∧
    exec .cvtfUsize s = .next (s.afterValue (clampRaw (s.a.toNat * 2 ^ 32)))

/-- R234, R235: the exact rational value of the float image, truncated toward zero and saturated. -/
def Obligations.ConvertFromFloats : Prop :=
  encode .cvtfF32 = 0xA60#64 ∧ encode .cvtfF64 = 0xB60#64 ∧
  ∀ s : State, s.LatchAgrees →
    exec .cvtfF32 s = .next (s.afterValue (scalarOfImage 8 23 127 (s.a.toNat % 2 ^ 32))) ∧
    exec .cvtfF64 s = .next (s.afterValue (scalarOfImage 11 52 1023 s.a.toNat))

/-- R237 to R246: the integral part toward zero, clamped to the target's range, sign- or zero-extended. -/
def Obligations.ConvertToIntegers : Prop :=
  [Instr.cvttI8, .cvttI16, .cvttI32, .cvttI64, .cvttIsize, .cvttU8, .cvttU16, .cvttU32, .cvttU64,
    .cvttUsize].map encode =
    [0x061#64, 0x161#64, 0x261#64, 0x361#64, 0x461#64, 0x561#64, 0x661#64, 0x761#64, 0x861#64,
      0x961#64] ∧
  ∀ (s : State) (n : Int), s.LatchAgrees → n = Int.tdiv s.a.toInt (2 ^ 32) →
    exec .cvttI8 s = .next (s.afterValue (max (-128) (min n 127))) ∧
    exec .cvttI16 s = .next (s.afterValue (max (-32768) (min n 32767))) ∧
    exec .cvttI32 s = .next (s.afterValue n) ∧
    exec .cvttI64 s = .next (s.afterValue n) ∧
    exec .cvttIsize s = .next (s.afterValue n) ∧
    exec .cvttU8 s = .next (s.afterValue (max 0 (min n 255))) ∧
    exec .cvttU16 s = .next (s.afterValue (max 0 (min n 65535))) ∧
    exec .cvttU32 s = .next (s.afterValue (max 0 n)) ∧
    exec .cvttU64 s = .next (s.afterValue (max 0 n)) ∧
    exec .cvttUsize s = .next (s.afterValue (max 0 n))

/-- 43_convert.md R223, R247, R248: `CVTT` to a float writes the encoder's image, zero-extended. The image
of 0 is `+0.0`; that of any other operand is a normal number whose exact value, times `2^32`, is the
operand's magnitude rounded to the format's 24 or 53 bits, with the operand's sign. -/
def Obligations.ConvertToFloats : Prop :=
  encode .cvttF32 = 0xA61#64 ∧ encode .cvttF64 = 0xB61#64 ∧
  floatEncode binary32 0 = 0 ∧ floatEncode binary64 0 = 0 ∧
  ∀ s : State, s.LatchAgrees →
    exec .cvttF32 s = .next (s.afterValue (floatEncode binary32 s.a.toInt)) ∧
    exec .cvttF64 s = .next (s.afterValue (floatEncode binary64 s.a.toInt)) ∧
    floatEncode binary32 s.a.toInt < 2 ^ 32 ∧ floatEncode binary64 s.a.toInt < 2 ^ 64 ∧
    imageRational 8 23 127 (floatEncode binary32 s.a.toInt) * 2 ^ 32 =
      (nearestOfBits 24 s.a.toInt : Rat) ∧
    imageRational 11 52 1023 (floatEncode binary64 s.a.toInt) * 2 ^ 32 =
      (nearestOfBits 53 s.a.toInt : Rat) ∧
    (s.a ≠ 0#64 →
      imageNormal 8 23 (floatEncode binary32 s.a.toInt) ∧
      imageNormal 11 52 (floatEncode binary64 s.a.toInt))

/-- R223: shortening a magnitude by `sh` bits gives a nearest multiple, and the even one of two equally
near. -/
def Obligations.RoundShiftIsNearestEven : Prop :=
  ∀ m sh : Nat,
    2 * |(m : Int) - roundShift m sh * 2 ^ sh| ≤ 2 ^ sh ∧
    (2 * |(m : Int) - roundShift m sh * 2 ^ sh| = 2 ^ sh → roundShift m sh % 2 = 0)

/-- R249: through binary64 and back, exactly the scalars of at most 53 significant bits, and `MAX`, come
back as they were. -/
def Obligations.RoundTripThroughBinary64 : Prop :=
  ∀ s : State, s.issued = none →
    ∃ t u, exec .cvttF64 s = .next t ∧ exec .cvtfF64 { s with a := t.r } = .next u ∧
      (u.r = s.a ↔ (significantBits 53 s.a.toInt ∨ s.a.toInt = 9223372036854775807))

/-- R249: through binary32 and back, every scalar of at most 24 significant bits comes back as it was. -/
def Obligations.RoundTripThroughBinary32 : Prop :=
  ∀ s : State, s.issued = none → significantBits 24 s.a.toInt →
    ∃ t u, exec .cvttF32 s = .next t ∧ exec .cvtfF32 { s with a := t.r } = .next u ∧ u.r = s.a

/-! ### Constants -/

/-- R260, with the words of R261: each `LDC` writes its ROM word. -/
def Obligations.LoadConstants : Prop :=
  ∀ p ∈ [(Instr.ldcZero, 0, 0x0000000000000000#64), (.ldcOne, 1, 0x0000000100000000#64),
      (.ldcMin, 2, 0x8000000000000000#64), (.ldcMax, 3, 0x7FFFFFFFFFFFFFFF#64),
      (.ldcPi, 4, 0x00000003243F6A89#64), (.ldcTwoPi, 5, 0x00000006487ED511#64),
      (.ldcFracPi2, 6, 0x00000001921FB544#64), (.ldcFracPi3, 7, 0x000000010C152383#64),
      (.ldcFracPi4, 8, 0x00000000C90FDAA2#64), (.ldcFracPi6, 9, 0x00000000860A91C1#64),
      (.ldcFracPi8, 10, 0x000000006487ED51#64), (.ldcFrac1Pi, 11, 0x00000000517CC1B7#64),
      (.ldcFrac2Pi, 12, 0x00000000A2F9836E#64), (.ldcFrac2SqrtPi, 13, 0x0000000120DD7504#64),
      (.ldcE, 14, 0x00000002B7E15163#64), (.ldcLog2E, 15, 0x0000000171547653#64),
      (.ldcLog10E, 16, 0x000000006F2DEC55#64), (.ldcLn2, 17, 0x00000000B17217F8#64),
      (.ldcLn10, 18, 0x000000024D763777#64), (.ldcDefaultEps, 19, 0x0000000000000016#64)],
    encode p.1 = BitVec.ofNat 64 (0x70 + 256 * p.2.1) ∧
      ∀ s : State, exec p.1 s = .next { s with r := p.2.2, status := s.status ||| 2#64 }

/-! ### The whole machine -/

/-- The frame of every command (10_state.md sections 3 to 5): operands, parameters, `CMD`, the sequencer and
the bus are never written; `R2` only by `SINCOS`; `T` only by predicates; `R` and `V` by neither `NOP`
nor an unsupported command; the fault fields only by those; reserved `STATUS` bits by none; and every
byte of the window outside `STATUS`, `R` and (for `SINCOS`) `R2` reads as before. -/
def Obligations.CommandFrame : Prop :=
  ∀ (i : Instr) (s t : State), exec i s = .next t →
    (t.a = s.a ∧ t.b = s.b ∧ t.cmd = s.cmd ∧ t.eps = s.eps ∧ t.maxrel = s.maxrel ∧
      t.maxulp = s.maxulp ∧ t.issued = s.issued ∧ t.rst = s.rst ∧ t.inbox = s.inbox ∧
      t.reply = s.reply) ∧
    (i ≠ .sincos → t.r2 = s.r2) ∧
    (i ∉ predicateInstrs → t.flagT = s.flagT) ∧
    (i = .nop ∨ i ∈ unsupportedInstrs → t.r = s.r ∧ t.flagV = s.flagV) ∧
    (i ∉ unsupportedInstrs → t.flagFault = s.flagFault ∧ t.cause = s.cause) ∧
    (∀ k, k ∉ [0, 1, 8, 12, 13, 14, 15] → t.status.getLsbD k = s.status.getLsbD k) ∧
    (∀ off, off < 0x18 ∨ 0x30 ≤ off ∨ (0x28 ≤ off ∧ i ≠ .sincos) →
      t.windowByte off = s.windowByte off)

/-- R7: a command's result is a function of the operand words, the parameter registers and the command
alone. Two states that agree on them get the same result, whatever else differs. -/
def Obligations.ResultsDependOnOperandsAlone : Prop :=
  ∀ (i : Instr) (s s' : State),
    s.operands.a = s'.operands.a → s.operands.b = s'.operands.b → s.operands.eps = s'.operands.eps →
    s.operands.maxrel = s'.operands.maxrel → s.operands.maxulp = s'.operands.maxulp →
    ∃ t t', exec i s = .next t ∧ exec i s' = .next t' ∧
      (i ≠ .nop → i ∉ unsupportedInstrs → t.r = t'.r ∧ t.flagV = t'.flagV) ∧
      (i ∈ predicateInstrs → t.flagT = t'.flagT) ∧ (i = .sincos → t.r2 = t'.r2)

/-- The reset state meets the invariant (R41). -/
def Obligations.ResetMeetsTheInvariant : Prop := State.reset.Inv

/-- R29, R33, R39, R300 as one invariant that every step of the block keeps: `STATUS` has no reserved bit
set and a legal cause, an executing command's copies are the registers as they stand, a missing result
reads 0, and reset holds the whole block. -/
def Obligations.EveryStepKeepsTheInvariant : Prop :=
  ∀ s t : State, s.Inv → step s = .next t → t.Inv

/-- R309: no program can hang the block. Out of reset and with no reset to come, after two steps for each
waiting access and one for the command that may be executing, every access has been performed and the
sequencer is idle. -/
def Obligations.EveryAccessCompletes : Prop :=
  ∀ s : State, s.rst = false → noResets s.inbox = true →
    ∃ t, Host.Core.run Sys2Proof.core (2 * s.inbox.length + 1) s = .next t ∧ t.inbox = [] ∧
      t.issued = none

/-- The machine stops nowhere but in reset: no step is refused, and a step faults exactly when `rst` is 1,
the platform holds accesses off, and an access waits with no change of `rst` to come (R300; log
entry 6). -/
def Obligations.StepStopsOnlyInReset : Prop :=
  ∀ s : State, (∀ e, step s ≠ .refused e) ∧
    ((∃ e, step s = .fault e) ↔
      (s.rst = true ∧ Config.errorDuringReset = false ∧ s.inbox ≠ [] ∧ noResets s.inbox = true))
end

