-- ==== Sys2Proof/Laws/State.lean ====
section
/-! SUPPORT. The field lemmas of `State`: what each update leaves in each field, so that no proof unfolds a
record update, and what it leaves of the operands. -/

namespace Sys2Proof.Machine

open Sys2Proof

variable (s : State)

@[simp] theorem State.setT_a (x : Bool) : (s.setT x).a = s.a := rfl
@[simp] theorem State.setT_b (x : Bool) : (s.setT x).b = s.b := rfl
@[simp] theorem State.setT_cmd (x : Bool) : (s.setT x).cmd = s.cmd := rfl
@[simp] theorem State.setT_status (x : Bool) : (s.setT x).status = withBit s.status 0 x := rfl
@[simp] theorem State.setT_r (x : Bool) : (s.setT x).r = s.r := rfl
@[simp] theorem State.setT_r2 (x : Bool) : (s.setT x).r2 = s.r2 := rfl
@[simp] theorem State.setT_eps (x : Bool) : (s.setT x).eps = s.eps := rfl
@[simp] theorem State.setT_maxrel (x : Bool) : (s.setT x).maxrel = s.maxrel := rfl
@[simp] theorem State.setT_maxulp (x : Bool) : (s.setT x).maxulp = s.maxulp := rfl
@[simp] theorem State.setT_issued (x : Bool) : (s.setT x).issued = s.issued := rfl
@[simp] theorem State.setT_rst (x : Bool) : (s.setT x).rst = s.rst := rfl
@[simp] theorem State.setT_inbox (x : Bool) : (s.setT x).inbox = s.inbox := rfl
@[simp] theorem State.setT_reply (x : Bool) : (s.setT x).reply = s.reply := rfl
@[simp] theorem State.setT_live (x : Bool) : (s.setT x).live = s.live := rfl
@[simp] theorem State.setT_operands (x : Bool) : (s.setT x).operands = s.operands := rfl

@[simp] theorem State.setV_a (x : Bool) : (s.setV x).a = s.a := rfl
@[simp] theorem State.setV_b (x : Bool) : (s.setV x).b = s.b := rfl
@[simp] theorem State.setV_cmd (x : Bool) : (s.setV x).cmd = s.cmd := rfl
@[simp] theorem State.setV_status (x : Bool) : (s.setV x).status = withBit s.status 1 x := rfl
@[simp] theorem State.setV_r (x : Bool) : (s.setV x).r = s.r := rfl
@[simp] theorem State.setV_r2 (x : Bool) : (s.setV x).r2 = s.r2 := rfl
@[simp] theorem State.setV_eps (x : Bool) : (s.setV x).eps = s.eps := rfl
@[simp] theorem State.setV_maxrel (x : Bool) : (s.setV x).maxrel = s.maxrel := rfl
@[simp] theorem State.setV_maxulp (x : Bool) : (s.setV x).maxulp = s.maxulp := rfl
@[simp] theorem State.setV_issued (x : Bool) : (s.setV x).issued = s.issued := rfl
@[simp] theorem State.setV_rst (x : Bool) : (s.setV x).rst = s.rst := rfl
@[simp] theorem State.setV_inbox (x : Bool) : (s.setV x).inbox = s.inbox := rfl
@[simp] theorem State.setV_reply (x : Bool) : (s.setV x).reply = s.reply := rfl
@[simp] theorem State.setV_live (x : Bool) : (s.setV x).live = s.live := rfl
@[simp] theorem State.setV_operands (x : Bool) : (s.setV x).operands = s.operands := rfl

@[simp] theorem State.setFault_a (c : FaultCause) : (s.setFault c).a = s.a := rfl
@[simp] theorem State.setFault_b (c : FaultCause) : (s.setFault c).b = s.b := rfl
@[simp] theorem State.setFault_cmd (c : FaultCause) : (s.setFault c).cmd = s.cmd := rfl
@[simp] theorem State.setFault_status (c : FaultCause) : (s.setFault c).status = (withBit s.status 8 true &&& ~~~0xF000#64) ||| ((causeCode c).setWidth 64 <<< 12) := rfl
@[simp] theorem State.setFault_r (c : FaultCause) : (s.setFault c).r = s.r := rfl
@[simp] theorem State.setFault_r2 (c : FaultCause) : (s.setFault c).r2 = s.r2 := rfl
@[simp] theorem State.setFault_eps (c : FaultCause) : (s.setFault c).eps = s.eps := rfl
@[simp] theorem State.setFault_maxrel (c : FaultCause) : (s.setFault c).maxrel = s.maxrel := rfl
@[simp] theorem State.setFault_maxulp (c : FaultCause) : (s.setFault c).maxulp = s.maxulp := rfl
@[simp] theorem State.setFault_issued (c : FaultCause) : (s.setFault c).issued = s.issued := rfl
@[simp] theorem State.setFault_rst (c : FaultCause) : (s.setFault c).rst = s.rst := rfl
@[simp] theorem State.setFault_inbox (c : FaultCause) : (s.setFault c).inbox = s.inbox := rfl
@[simp] theorem State.setFault_reply (c : FaultCause) : (s.setFault c).reply = s.reply := rfl
@[simp] theorem State.setFault_live (c : FaultCause) : (s.setFault c).live = s.live := rfl
@[simp] theorem State.setFault_operands (c : FaultCause) : (s.setFault c).operands = s.operands := rfl

@[simp] theorem State.completeValue_a (res : Int) : (s.completeValue res).a = s.a := rfl
@[simp] theorem State.completeValue_b (res : Int) : (s.completeValue res).b = s.b := rfl
@[simp] theorem State.completeValue_cmd (res : Int) : (s.completeValue res).cmd = s.cmd := rfl
@[simp] theorem State.completeValue_status (res : Int) : (s.completeValue res).status = withBit s.status 1 true := rfl
@[simp] theorem State.completeValue_r (res : Int) : (s.completeValue res).r = u64 res := rfl
@[simp] theorem State.completeValue_r2 (res : Int) : (s.completeValue res).r2 = s.r2 := rfl
@[simp] theorem State.completeValue_eps (res : Int) : (s.completeValue res).eps = s.eps := rfl
@[simp] theorem State.completeValue_maxrel (res : Int) : (s.completeValue res).maxrel = s.maxrel := rfl
@[simp] theorem State.completeValue_maxulp (res : Int) : (s.completeValue res).maxulp = s.maxulp := rfl
@[simp] theorem State.completeValue_issued (res : Int) : (s.completeValue res).issued = s.issued := rfl
@[simp] theorem State.completeValue_rst (res : Int) : (s.completeValue res).rst = s.rst := rfl
@[simp] theorem State.completeValue_inbox (res : Int) : (s.completeValue res).inbox = s.inbox := rfl
@[simp] theorem State.completeValue_reply (res : Int) : (s.completeValue res).reply = s.reply := rfl
@[simp] theorem State.completeValue_live (res : Int) : (s.completeValue res).live = s.live := rfl
@[simp] theorem State.completeValue_operands (res : Int) : (s.completeValue res).operands = s.operands := rfl

@[simp] theorem State.completePredicate_a (t : Bool) : (s.completePredicate t).a = s.a := rfl
@[simp] theorem State.completePredicate_b (t : Bool) : (s.completePredicate t).b = s.b := rfl
@[simp] theorem State.completePredicate_cmd (t : Bool) : (s.completePredicate t).cmd = s.cmd := rfl
@[simp] theorem State.completePredicate_status (t : Bool) : (s.completePredicate t).status = withBit (withBit s.status 0 t) 1 true := rfl
@[simp] theorem State.completePredicate_r (t : Bool) : (s.completePredicate t).r = if t then 1#64 else 0#64 := rfl
@[simp] theorem State.completePredicate_r2 (t : Bool) : (s.completePredicate t).r2 = s.r2 := rfl
@[simp] theorem State.completePredicate_eps (t : Bool) : (s.completePredicate t).eps = s.eps := rfl
@[simp] theorem State.completePredicate_maxrel (t : Bool) : (s.completePredicate t).maxrel = s.maxrel := rfl
@[simp] theorem State.completePredicate_maxulp (t : Bool) : (s.completePredicate t).maxulp = s.maxulp := rfl
@[simp] theorem State.completePredicate_issued (t : Bool) : (s.completePredicate t).issued = s.issued := rfl
@[simp] theorem State.completePredicate_rst (t : Bool) : (s.completePredicate t).rst = s.rst := rfl
@[simp] theorem State.completePredicate_inbox (t : Bool) : (s.completePredicate t).inbox = s.inbox := rfl
@[simp] theorem State.completePredicate_reply (t : Bool) : (s.completePredicate t).reply = s.reply := rfl
@[simp] theorem State.completePredicate_live (t : Bool) : (s.completePredicate t).live = s.live := rfl
@[simp] theorem State.completePredicate_operands (t : Bool) : (s.completePredicate t).operands = s.operands := rfl

@[simp] theorem State.raiseFault_a (c : FaultCause) : (s.raiseFault c).a = s.a := rfl
@[simp] theorem State.raiseFault_b (c : FaultCause) : (s.raiseFault c).b = s.b := rfl
@[simp] theorem State.raiseFault_cmd (c : FaultCause) : (s.raiseFault c).cmd = s.cmd := rfl
@[simp] theorem State.raiseFault_status (c : FaultCause) : (s.raiseFault c).status = (s.setFault c).status := rfl
@[simp] theorem State.raiseFault_r (c : FaultCause) : (s.raiseFault c).r = s.r := rfl
@[simp] theorem State.raiseFault_r2 (c : FaultCause) : (s.raiseFault c).r2 = s.r2 := rfl
@[simp] theorem State.raiseFault_eps (c : FaultCause) : (s.raiseFault c).eps = s.eps := rfl
@[simp] theorem State.raiseFault_maxrel (c : FaultCause) : (s.raiseFault c).maxrel = s.maxrel := rfl
@[simp] theorem State.raiseFault_maxulp (c : FaultCause) : (s.raiseFault c).maxulp = s.maxulp := rfl
@[simp] theorem State.raiseFault_issued (c : FaultCause) : (s.raiseFault c).issued = s.issued := rfl
@[simp] theorem State.raiseFault_rst (c : FaultCause) : (s.raiseFault c).rst = s.rst := rfl
@[simp] theorem State.raiseFault_inbox (c : FaultCause) : (s.raiseFault c).inbox = s.inbox := rfl
@[simp] theorem State.raiseFault_reply (c : FaultCause) : (s.raiseFault c).reply = s.reply := rfl
@[simp] theorem State.raiseFault_live (c : FaultCause) : (s.raiseFault c).live = s.live := rfl
@[simp] theorem State.raiseFault_operands (c : FaultCause) : (s.raiseFault c).operands = s.operands := rfl

@[simp] theorem State.retire_a : (s.retire).a = s.a := rfl
@[simp] theorem State.retire_b : (s.retire).b = s.b := rfl
@[simp] theorem State.retire_cmd : (s.retire).cmd = s.cmd := rfl
@[simp] theorem State.retire_status : (s.retire).status = s.status := rfl
@[simp] theorem State.retire_r : (s.retire).r = s.r := rfl
@[simp] theorem State.retire_r2 : (s.retire).r2 = s.r2 := rfl
@[simp] theorem State.retire_eps : (s.retire).eps = s.eps := rfl
@[simp] theorem State.retire_maxrel : (s.retire).maxrel = s.maxrel := rfl
@[simp] theorem State.retire_maxulp : (s.retire).maxulp = s.maxulp := rfl
@[simp] theorem State.retire_issued : (s.retire).issued = none := rfl
@[simp] theorem State.retire_rst : (s.retire).rst = s.rst := rfl
@[simp] theorem State.retire_inbox : (s.retire).inbox = s.inbox := rfl
@[simp] theorem State.retire_reply : (s.retire).reply = s.reply := rfl

@[simp] theorem State.issue_a (w : Word) : (s.issue w).a = s.a := rfl
@[simp] theorem State.issue_b (w : Word) : (s.issue w).b = s.b := rfl
@[simp] theorem State.issue_cmd (w : Word) : (s.issue w).cmd = w := rfl
@[simp] theorem State.issue_status (w : Word) : (s.issue w).status = s.status := rfl
@[simp] theorem State.issue_r (w : Word) : (s.issue w).r = s.r := rfl
@[simp] theorem State.issue_r2 (w : Word) : (s.issue w).r2 = s.r2 := rfl
@[simp] theorem State.issue_eps (w : Word) : (s.issue w).eps = s.eps := rfl
@[simp] theorem State.issue_maxrel (w : Word) : (s.issue w).maxrel = s.maxrel := rfl
@[simp] theorem State.issue_maxulp (w : Word) : (s.issue w).maxulp = s.maxulp := rfl
@[simp] theorem State.issue_issued (w : Word) : (s.issue w).issued = some { s.live with cmd := w } := rfl
@[simp] theorem State.issue_rst (w : Word) : (s.issue w).rst = s.rst := rfl
@[simp] theorem State.issue_inbox (w : Word) : (s.issue w).inbox = s.inbox := rfl
@[simp] theorem State.issue_reply (w : Word) : (s.issue w).reply = s.reply := rfl

@[simp] theorem State.takeReset_a (l : Bool) : (s.takeReset l).a = State.reset.a := rfl
@[simp] theorem State.takeReset_b (l : Bool) : (s.takeReset l).b = State.reset.b := rfl
@[simp] theorem State.takeReset_cmd (l : Bool) : (s.takeReset l).cmd = State.reset.cmd := rfl
@[simp] theorem State.takeReset_status (l : Bool) : (s.takeReset l).status = State.reset.status := rfl
@[simp] theorem State.takeReset_r (l : Bool) : (s.takeReset l).r = State.reset.r := rfl
@[simp] theorem State.takeReset_r2 (l : Bool) : (s.takeReset l).r2 = State.reset.r2 := rfl
@[simp] theorem State.takeReset_eps (l : Bool) : (s.takeReset l).eps = State.reset.eps := rfl
@[simp] theorem State.takeReset_maxrel (l : Bool) : (s.takeReset l).maxrel = State.reset.maxrel := rfl
@[simp] theorem State.takeReset_maxulp (l : Bool) : (s.takeReset l).maxulp = State.reset.maxulp := rfl
@[simp] theorem State.takeReset_issued (l : Bool) : (s.takeReset l).issued = State.reset.issued := rfl
@[simp] theorem State.takeReset_rst (l : Bool) : (s.takeReset l).rst = l := rfl
@[simp] theorem State.takeReset_inbox (l : Bool) : (s.takeReset l).inbox = s.inbox := rfl
@[simp] theorem State.takeReset_reply (l : Bool) : (s.takeReset l).reply = State.reset.reply := rfl

@[simp] theorem State.reset_a : State.reset.a = 0#64 := rfl
@[simp] theorem State.reset_b : State.reset.b = 0#64 := rfl
@[simp] theorem State.reset_cmd : State.reset.cmd = 0#64 := rfl
@[simp] theorem State.reset_status : State.reset.status = 0#64 := rfl
@[simp] theorem State.reset_r : State.reset.r = 0#64 := rfl
@[simp] theorem State.reset_r2 : State.reset.r2 = 0#64 := rfl
@[simp] theorem State.reset_eps : State.reset.eps = 22#64 := rfl
@[simp] theorem State.reset_maxrel : State.reset.maxrel = 22#64 := rfl
@[simp] theorem State.reset_maxulp : State.reset.maxulp = 4#64 := rfl
@[simp] theorem State.reset_issued : State.reset.issued = none := rfl
@[simp] theorem State.reset_rst : State.reset.rst = false := rfl
@[simp] theorem State.reset_inbox : State.reset.inbox = [] := rfl
@[simp] theorem State.reset_reply : State.reset.reply = none := rfl

/-- An idle sequencer's operands are the registers (R305). -/
theorem State.operands_of_idle (h : s.issued = none) : s.operands = s.live := by
  simp [State.operands, h]

/-- A busy sequencer's operands are its copies (R39). -/
theorem State.operands_of_busy (q : Issue) (h : s.issued = some q) : s.operands = q := by
  simp [State.operands, h]

end Sys2Proof.Machine
end

