-- ==== Sys2Proof/Laws/Ops.lean ====
section
/-! SUPPORT. One lemma per shared operation that says once what it does: the arithmetic helpers, the fields
of `STATUS`, the completions and the fault entry, the operands, and the register window. -/

namespace Sys2Proof.Machine

open Sys2Proof

/-! ### Arithmetic helpers -/

theorem sat64_eq_clampRaw (v : Int) : sat64 v = clampRaw v := by
  unfold sat64 clampRaw Config.minRaw Config.maxRaw
  split
  · omega
  · split <;> omega

theorem sat64_range (v : Int) : Config.minRaw ≤ sat64 v ∧ sat64 v ≤ Config.maxRaw := by
  rw [sat64_eq_clampRaw]
  unfold clampRaw Config.minRaw Config.maxRaw
  omega

theorem sat64_of_range (v : Int) (lo : Config.minRaw ≤ v) (hi : v ≤ Config.maxRaw) : sat64 v = v := by
  unfold sat64
  rw [if_neg (by omega), if_neg (by omega)]

theorem floorDiv_eq_ediv (a b : Int) (hb : 0 ≤ b) : floorDiv a b = a / b :=
  Int.fdiv_eq_ediv_of_nonneg a hb

theorem shr_eq_ediv (a : Int) (n : Nat) : shr a n = a / 2 ^ n := by
  simp [shr, Int.shiftRight_eq_div_pow]

/-- The arithmetic shift is the floored quotient (R11). -/
theorem shr_eq_floorDiv (a : Int) (n : Nat) : shr a n = floorDiv a (2 ^ n) := by
  rw [shr_eq_ediv, floorDiv_eq_ediv _ _ (by positivity)]

theorem s64_range (u : Word) : Config.minRaw ≤ s64 u ∧ s64 u ≤ Config.maxRaw := by
  have h1 := BitVec.two_mul_toInt_lt (x := u)
  have h2 := BitVec.le_two_mul_toInt (x := u)
  unfold s64 Config.minRaw Config.maxRaw
  omega

/-- Reading back a raw value that fits (R11). -/
theorem s64_u64 (v : Int) (lo : Config.minRaw ≤ v) (hi : v ≤ Config.maxRaw) : s64 (u64 v) = v := by
  unfold Config.minRaw at lo
  unfold Config.maxRaw at hi
  unfold s64 u64
  rw [BitVec.toInt_ofInt]
  exact Int.bmod_eq_of_le (by omega) (by omega)

theorem u64_s64 (u : Word) : u64 (s64 u) = u := BitVec.ofInt_toInt

/-! ### `STATUS` -/

theorem withBit_getLsbD (v : Word) (k i : Nat) (x : Bool) (hk : k < 64) :
    (withBit v k x).getLsbD i = if i = k then x else v.getLsbD i := by
  by_cases h : i = k
  · subst h
    cases x <;> simp [withBit, hk]
  · rcases Nat.lt_or_gt_of_ne h with h2 | h2
    · cases x <;> simp [withBit, h, h2] <;> intro hv <;> exact BitVec.lt_of_getLsbD hv
    · have h3 : i - k ≠ 0 := by omega
      cases x <;> simp [withBit, h, h3] <;> intro hv <;> have := BitVec.lt_of_getLsbD hv <;> omega

/-- Clearing the bits of a mask before setting them changes nothing. -/
theorem and_not_or_self (v m : Word) : (v &&& ~~~m) ||| m = v ||| m := by
  ext i hi
  simp only [BitVec.getElem_or, BitVec.getElem_and, BitVec.getElem_not]
  cases v[i] <;> cases m[i] <;> rfl

/-- Setting `V` (R31). -/
theorem withBit_V (v : Word) : withBit v 1 true = v ||| 2#64 := and_not_or_self v 2#64

/-- Writing `T` and setting `V` (R101). -/
theorem withBit_TV (v : Word) (t : Bool) :
    withBit (withBit v 0 t) 1 true = (v &&& ~~~1#64) ||| (if t then 3#64 else 2#64) := by
  rw [withBit_V]
  have h3 : (3#64 : Word) = 1#64 ||| 2#64 := rfl
  cases t
  · show (v &&& ~~~1#64 ||| 0#64) ||| 2#64 = _
    simp
  · show (v &&& ~~~1#64 ||| 1#64) ||| 2#64 = (v &&& ~~~1#64) ||| 3#64
    rw [h3, BitVec.or_assoc]

/-- The fault entry's `STATUS` (R272). -/
theorem setFault_status_eq (s : State) (c : FaultCause) :
    (s.setFault c).status =
      (s.status &&& ~~~0xF100#64) ||| 0x100#64 ||| ((causeCode c).setWidth 64 <<< 12) := by
  show ((s.status &&& ~~~0x100#64 ||| 0x100#64) &&& ~~~0xF000#64) ||| _ = _
  congr 1
  have h1 : (0xF100#64 : Word) = 0x100#64 ||| 0xF000#64 := rfl
  have h2 : (0x100#64 : Word) = 0x100#64 &&& ~~~0xF000#64 := rfl
  rw [h1]
  conv_rhs => rw [h2]
  ext i hi
  simp only [BitVec.getElem_or, BitVec.getElem_and, BitVec.getElem_not]
  cases (s.status)[i] <;> cases (0x100#64)[i] <;> cases (0xF000#64)[i] <;> rfl

/-! ### Completion and fault entry -/

/-- What a value command does (R100). -/
theorem completeValue_eq_afterValue (s : State) (res : Int) : s.completeValue res = s.afterValue res := by
  simp only [State.completeValue, State.afterValue, State.setV, u64, withBit_V]

/-- What a predicate command does (R101). -/
theorem completePredicate_eq_afterPredicate (s : State) (t : Bool) :
    s.completePredicate t = s.afterPredicate t := by
  simp only [State.completePredicate, State.afterPredicate, State.setV, State.setT, withBit_TV]

/-- What taking the block's fault does (R272). -/
theorem raiseFault_eq_afterFault (s : State) (c : FaultCause) :
    s.raiseFault c = s.afterFault ((causeCode c).setWidth 64) := by
  simp only [State.raiseFault, State.afterFault, ← setFault_status_eq]
  rfl

/-- Fault entry sets `STATUS.FAULT` (R272). -/
theorem raiseFault_flagFault (s : State) (c : FaultCause) : (s.raiseFault c).flagFault = true := by
  rw [raiseFault_eq_afterFault]
  cases c <;> simp [State.flagFault, State.afterFault, causeCode]

/-! ### Operands -/

/-- Latching and reading live give the same results (R305). -/
theorem operands_of_latchAgrees (s : State) (h : s.LatchAgrees) : s.operands = s.live := by
  rcases h with h | h
  · exact s.operands_of_idle h
  · exact s.operands_of_busy _ h

theorem wordA_of_latchAgrees (s : State) (h : s.LatchAgrees) : s.wordA = s.a := by
  simp [State.wordA, operands_of_latchAgrees s h, State.live]

theorem wordB_of_latchAgrees (s : State) (h : s.LatchAgrees) : s.wordB = s.b := by
  simp [State.wordB, operands_of_latchAgrees s h, State.live]

theorem opA_of_latchAgrees (s : State) (h : s.LatchAgrees) : s.opA = s.a.toInt := by
  simp [State.opA, s64, wordA_of_latchAgrees s h]

theorem opB_of_latchAgrees (s : State) (h : s.LatchAgrees) : s.opB = s.b.toInt := by
  simp [State.opB, s64, wordB_of_latchAgrees s h]

theorem opEps_of_latchAgrees (s : State) (h : s.LatchAgrees) : s.opEps = s.eps.toInt := by
  simp [State.opEps, s64, operands_of_latchAgrees s h, State.live]

theorem opMaxrel_of_latchAgrees (s : State) (h : s.LatchAgrees) : s.opMaxrel = s.maxrel.toInt := by
  simp [State.opMaxrel, s64, operands_of_latchAgrees s h, State.live]

theorem opMaxulp_of_latchAgrees (s : State) (h : s.LatchAgrees) :
    s.opMaxulp = (s.maxulp.toNat : Int) := by
  simp [State.opMaxulp, operands_of_latchAgrees s h, State.live]

/-- The copies of an issued command are the registers as they stand (R39, R305). -/
theorem issue_latchAgrees (s : State) (w : Word) : (s.issue w).LatchAgrees := Or.inr rfl

/-! ### The register window -/

/-- What an admitted read does (R52): only the reply and nothing of the window. -/
theorem perform_read (s : State) (q : BusAccess) (ok : q.admitted = true) (rd : q.we = false) :
    s.perform q = { s with reply := some { err := false, rdata := some (s.register q.addr.toNat) } } := by
  simp [State.perform, ok, rd]

/-- What an admitted write does (R53). -/
theorem perform_write (s : State) (q : BusAccess) (ok : q.admitted = true) (wr : q.we = true) :
    s.perform q =
      { s.writeRegister q.addr.toNat q.wdata with reply := some { err := false, rdata := none } } := by
  simp [State.perform, ok, wr]

/-- What an access that is not admitted does (R51). -/
theorem perform_error (s : State) (q : BusAccess) (bad : q.admitted = false) :
    s.perform q = { s with reply := some q.errorReply } := by
  simp [State.perform, bad]

/-- The first pending change of `rst` is taken out of the accesses before it. -/
theorem firstReset_append (before after : List HostEvent) (level : Bool)
    (h : ∀ e ∈ before, ∃ q, e = .access q) :
    firstReset (before ++ .rst level :: after) = some (level, before ++ after) := by
  induction before with
  | nil => rfl
  | cons e before ih =>
    obtain ⟨q, rfl⟩ := h e (by simp)
    simp [firstReset, ih fun e he => h e (by simp [he])]

/-- Everything an answer in reset can be (R300): an error, with data 0 for a read that R51 does not admit
and with none for a write. -/
theorem resetReply_cases (q : BusAccess) (n : Nat) :
    (q.resetReply n).err = true ∧
    (q.we = true → (q.resetReply n).rdata = none) ∧
    (q.we = false → q.admitted = false → (q.resetReply n).rdata = some 0#64) ∧
    (q.we = false → q.admitted = true →
      (q.resetReply n).rdata = some (Config.readDataInReset n)) := by
  unfold BusAccess.resetReply BusAccess.errorReply
  cases q.we <;> cases q.admitted <;> simp

/-- Everything an admitted write can do (R53): one of the five plain registers, an issue, or nothing. -/
theorem writeRegister_cases (s : State) (off : Nat) (v : Word) :
    (off = 0x00 ∧ s.writeRegister off v = { s with a := v }) ∨
    (off = 0x08 ∧ s.writeRegister off v = { s with b := v }) ∨
    (off = 0x10 ∧ s.flagFault = false ∧ s.writeRegister off v = s.issue v) ∨
    (off = 0x30 ∧ s.writeRegister off v = { s with eps := v }) ∨
    (off = 0x38 ∧ s.writeRegister off v = { s with maxrel := v }) ∨
    (off = 0x40 ∧ s.writeRegister off v = { s with maxulp := v }) ∨
    s.writeRegister off v = s := by
  unfold State.writeRegister
  split <;> simp_all

/-- The window's bytes are the registers' bytes (R54). -/
theorem windowByte_congr (s t : State) (off : Nat)
    (h : t.register (off - off % 8) = s.register (off - off % 8)) :
    t.windowByte off = s.windowByte off := by
  simp [State.windowByte, h]

end Sys2Proof.Machine
end

