-- ==== Sys2Proof/Laws/Flags.lean ====
section
/-! SUPPORT. What each update of the state leaves in each field of `STATUS` (10_state.md R29 to R33). -/

namespace Sys2Proof.Machine

open Sys2Proof

variable (s : State)

/-- `CAUSE` is bits 15:12, so two states that agree there have the same cause. -/
theorem cause_congr (s t : State)
    (h : ∀ i, 12 ≤ i → i < 16 → t.status.getLsbD i = s.status.getLsbD i) : t.cause = s.cause := by
  unfold State.cause
  apply BitVec.eq_of_getLsbD_eq
  intro i hi
  simp only [BitVec.getLsbD_extractLsb', hi, decide_true, Bool.true_and]
  exact h _ (by omega) (by omega)

@[simp] theorem State.setT_flagT (x : Bool) : (s.setT x).flagT = x := by
  simp only [State.flagT, State.setT_status, withBit_getLsbD _ 0 0 x (by omega), if_true]

@[simp] theorem State.setT_flagV (x : Bool) : (s.setT x).flagV = s.flagV := by
  simp only [State.flagV, State.setT_status, withBit_getLsbD _ 0 1 x (by omega)]
  rfl

@[simp] theorem State.setT_flagFault (x : Bool) : (s.setT x).flagFault = s.flagFault := by
  simp only [State.flagFault, State.setT_status, withBit_getLsbD _ 0 8 x (by omega)]
  rfl

@[simp] theorem State.setT_cause (x : Bool) : (s.setT x).cause = s.cause :=
  cause_congr _ _ fun i lo _ => by
    rw [State.setT_status, withBit_getLsbD _ 0 i x (by omega), if_neg (by omega)]

@[simp] theorem State.setV_flagT (x : Bool) : (s.setV x).flagT = s.flagT := by
  simp only [State.flagT, State.setV_status, withBit_getLsbD _ 1 0 x (by omega)]
  rfl

@[simp] theorem State.setV_flagV (x : Bool) : (s.setV x).flagV = x := by
  simp only [State.flagV, State.setV_status, withBit_getLsbD _ 1 1 x (by omega), if_true]

@[simp] theorem State.setV_flagFault (x : Bool) : (s.setV x).flagFault = s.flagFault := by
  simp only [State.flagFault, State.setV_status, withBit_getLsbD _ 1 8 x (by omega)]
  rfl

@[simp] theorem State.setV_cause (x : Bool) : (s.setV x).cause = s.cause :=
  cause_congr _ _ fun i lo _ => by
    rw [State.setV_status, withBit_getLsbD _ 1 i x (by omega), if_neg (by omega)]

@[simp] theorem State.completeValue_flagT (v : Int) : (s.completeValue v).flagT = s.flagT :=
  s.setV_flagT true

@[simp] theorem State.completeValue_flagV (v : Int) : (s.completeValue v).flagV = true :=
  s.setV_flagV true

@[simp] theorem State.completeValue_flagFault (v : Int) :
    (s.completeValue v).flagFault = s.flagFault := s.setV_flagFault true

@[simp] theorem State.completeValue_cause (v : Int) : (s.completeValue v).cause = s.cause :=
  s.setV_cause true

@[simp] theorem State.completePredicate_flagT (t : Bool) : (s.completePredicate t).flagT = t := by
  rw [show (s.completePredicate t).flagT = ((s.setT t).setV true).flagT from rfl]
  simp

@[simp] theorem State.completePredicate_flagV (t : Bool) : (s.completePredicate t).flagV = true :=
  (s.setT t).setV_flagV true

@[simp] theorem State.completePredicate_flagFault (t : Bool) :
    (s.completePredicate t).flagFault = s.flagFault := by
  rw [show (s.completePredicate t).flagFault = ((s.setT t).setV true).flagFault from rfl]
  simp

@[simp] theorem State.completePredicate_cause (t : Bool) :
    (s.completePredicate t).cause = s.cause := by
  rw [show (s.completePredicate t).cause = ((s.setT t).setV true).cause from rfl]
  simp

@[simp] theorem State.raiseFault_flagT (c : FaultCause) : (s.raiseFault c).flagT = s.flagT := by
  rw [raiseFault_eq_afterFault]
  cases c <;> simp [State.flagT, State.afterFault, causeCode]

@[simp] theorem State.raiseFault_flagV (c : FaultCause) : (s.raiseFault c).flagV = s.flagV := by
  rw [raiseFault_eq_afterFault]
  cases c <;> simp [State.flagV, State.afterFault, causeCode]

@[simp] theorem State.raiseFault_flagFault (c : FaultCause) : (s.raiseFault c).flagFault = true :=
  Machine.raiseFault_flagFault s c

@[simp] theorem State.raiseFault_cause (c : FaultCause) : (s.raiseFault c).cause = causeCode c := by
  rw [raiseFault_eq_afterFault]
  unfold State.cause State.afterFault
  apply BitVec.eq_of_getLsbD_eq
  intro i hi
  cases c <;> interval_cases i <;> simp [causeCode]

end Sys2Proof.Machine
end

