-- ==== Sys2Proof/Laws/PerInstr.lean ====
section
/-! SUPPORT. The per-instruction family: the fields that the encoder gives each command are well formed by
the ranges of 30_encoding.md R74, and its word is `OP + 256 * SEL` (R70, R77). -/

namespace Sys2Proof.Laws.WellFormedEncoding

/-- The encoder's fields are legal and its word is `OP + 256 * SEL`. -/
def Statement (i : Instr) : Prop :=
  (instrFields i).wellFormed = true ∧
    (encode i).toNat = (instrFields i).op.toNat + 256 * (instrFields i).sel.toNat

theorem nop : Statement .nop := by unfold Statement; decide
theorem add : Statement .add := by unfold Statement; decide
theorem sub : Statement .sub := by unfold Statement; decide
theorem mul : Statement .mul := by unfold Statement; decide
theorem div : Statement .div := by unfold Statement; decide
theorem rem : Statement .rem := by unfold Statement; decide
theorem neg : Statement .neg := by unfold Statement; decide
theorem abs : Statement .abs := by unfold Statement; decide
theorem signum : Statement .signum := by unfold Statement; decide
theorem cmpeq : Statement .cmpeq := by unfold Statement; decide
theorem cmpne : Statement .cmpne := by unfold Statement; decide
theorem cmplt : Statement .cmplt := by unfold Statement; decide
theorem cmple : Statement .cmple := by unfold Statement; decide
theorem floor : Statement .floor := by unfold Statement; decide
theorem ceil : Statement .ceil := by unfold Statement; decide
theorem round : Statement .round := by unfold Statement; decide
theorem trunc : Statement .trunc := by unfold Statement; decide
theorem fract : Statement .fract := by unfold Statement; decide
theorem sqrt : Statement .sqrt := by unfold Statement; decide
theorem sqrtc : Statement .sqrtc := by unfold Statement; decide
theorem exp : Statement .exp := by unfold Statement; decide
theorem sin : Statement .sin := by unfold Statement; decide
theorem cos : Statement .cos := by unfold Statement; decide
theorem tan : Statement .tan := by unfold Statement; decide
theorem asin : Statement .asin := by unfold Statement; decide
theorem acos : Statement .acos := by unfold Statement; decide
theorem atan : Statement .atan := by unfold Statement; decide
theorem atan2 : Statement .atan2 := by unfold Statement; decide
theorem sincos : Statement .sincos := by unfold Statement; decide
theorem isfinite : Statement .isfinite := by unfold Statement; decide
theorem ln : Statement .ln := by unfold Statement; decide
theorem log2 : Statement .log2 := by unfold Statement; decide
theorem log10 : Statement .log10 := by unfold Statement; decide
theorem log1p : Statement .log1p := by unfold Statement; decide
theorem exp2 : Statement .exp2 := by unfold Statement; decide
theorem expm1 : Statement .expm1 := by unfold Statement; decide
theorem cbrt : Statement .cbrt := by unfold Statement; decide
theorem sinh : Statement .sinh := by unfold Statement; decide
theorem cosh : Statement .cosh := by unfold Statement; decide
theorem tanh : Statement .tanh := by unfold Statement; decide
theorem asinh : Statement .asinh := by unfold Statement; decide
theorem acosh : Statement .acosh := by unfold Statement; decide
theorem atanh : Statement .atanh := by unfold Statement; decide
theorem hypot : Statement .hypot := by unfold Statement; decide
theorem powi : Statement .powi := by unfold Statement; decide
theorem powf : Statement .powf := by unfold Statement; decide
theorem powc : Statement .powc := by unfold Statement; decide
theorem aeqabs : Statement .aeqabs := by unfold Statement; decide
theorem aeqrel : Statement .aeqrel := by unfold Statement; decide
theorem aequlp : Statement .aequlp := by unfold Statement; decide
theorem cvtfI8 : Statement .cvtfI8 := by unfold Statement; decide
theorem cvtfI16 : Statement .cvtfI16 := by unfold Statement; decide
theorem cvtfI32 : Statement .cvtfI32 := by unfold Statement; decide
theorem cvtfI64 : Statement .cvtfI64 := by unfold Statement; decide
theorem cvtfIsize : Statement .cvtfIsize := by unfold Statement; decide
theorem cvtfU8 : Statement .cvtfU8 := by unfold Statement; decide
theorem cvtfU16 : Statement .cvtfU16 := by unfold Statement; decide
theorem cvtfU32 : Statement .cvtfU32 := by unfold Statement; decide
theorem cvtfU64 : Statement .cvtfU64 := by unfold Statement; decide
theorem cvtfUsize : Statement .cvtfUsize := by unfold Statement; decide
theorem cvtfF32 : Statement .cvtfF32 := by unfold Statement; decide
theorem cvtfF64 : Statement .cvtfF64 := by unfold Statement; decide
theorem cvttI8 : Statement .cvttI8 := by unfold Statement; decide
theorem cvttI16 : Statement .cvttI16 := by unfold Statement; decide
theorem cvttI32 : Statement .cvttI32 := by unfold Statement; decide
theorem cvttI64 : Statement .cvttI64 := by unfold Statement; decide
theorem cvttIsize : Statement .cvttIsize := by unfold Statement; decide
theorem cvttU8 : Statement .cvttU8 := by unfold Statement; decide
theorem cvttU16 : Statement .cvttU16 := by unfold Statement; decide
theorem cvttU32 : Statement .cvttU32 := by unfold Statement; decide
theorem cvttU64 : Statement .cvttU64 := by unfold Statement; decide
theorem cvttUsize : Statement .cvttUsize := by unfold Statement; decide
theorem cvttF32 : Statement .cvttF32 := by unfold Statement; decide
theorem cvttF64 : Statement .cvttF64 := by unfold Statement; decide
theorem ldcZero : Statement .ldcZero := by unfold Statement; decide
theorem ldcOne : Statement .ldcOne := by unfold Statement; decide
theorem ldcMin : Statement .ldcMin := by unfold Statement; decide
theorem ldcMax : Statement .ldcMax := by unfold Statement; decide
theorem ldcPi : Statement .ldcPi := by unfold Statement; decide
theorem ldcTwoPi : Statement .ldcTwoPi := by unfold Statement; decide
theorem ldcFracPi2 : Statement .ldcFracPi2 := by unfold Statement; decide
theorem ldcFracPi3 : Statement .ldcFracPi3 := by unfold Statement; decide
theorem ldcFracPi4 : Statement .ldcFracPi4 := by unfold Statement; decide
theorem ldcFracPi6 : Statement .ldcFracPi6 := by unfold Statement; decide
theorem ldcFracPi8 : Statement .ldcFracPi8 := by unfold Statement; decide
theorem ldcFrac1Pi : Statement .ldcFrac1Pi := by unfold Statement; decide
theorem ldcFrac2Pi : Statement .ldcFrac2Pi := by unfold Statement; decide
theorem ldcFrac2SqrtPi : Statement .ldcFrac2SqrtPi := by unfold Statement; decide
theorem ldcE : Statement .ldcE := by unfold Statement; decide
theorem ldcLog2E : Statement .ldcLog2E := by unfold Statement; decide
theorem ldcLog10E : Statement .ldcLog10E := by unfold Statement; decide
theorem ldcLn2 : Statement .ldcLn2 := by unfold Statement; decide
theorem ldcLn10 : Statement .ldcLn10 := by unfold Statement; decide
theorem ldcDefaultEps : Statement .ldcDefaultEps := by unfold Statement; decide

end Sys2Proof.Laws.WellFormedEncoding
end

