-- ==== Sys2Proof/Laws/Run.lean ====
section
/-! SUPPORT. Runs of several steps, one step at a time, in the machine's own types. -/

namespace Sys2Proof.Machine

open Sys2Proof

/-- The machine run for `k` steps, with its own types for the host's. -/
abbrev run (k : Nat) (s : State) : Host.Outcome State Fault Refusal := Host.Core.run Sys2Proof.core k s

theorem run_zero (s : State) : run 0 s = .next s := rfl

/-- A run begins with its first step. -/
theorem run_succ_of_step (k : Nat) (s t : State) (h : step s = .next t) : run (k + 1) s = run k t := by
  have h' : Sys2Proof.core.step s = .next t := h
  show Host.Core.run Sys2Proof.core (k + 1) s = Host.Core.run Sys2Proof.core k t
  simp only [Host.Core.run, h']

/-- A run that ends in a next state took a first step and went on from there. -/
theorem step_of_run_succ (k : Nat) (s u : State) (h : run (k + 1) s = .next u) :
    ∃ t, step s = .next t ∧ run k t = .next u := by
  have h2 : Host.Core.run Sys2Proof.core (k + 1) s = .next u := h
  cases hs : step s with
  | next t => exact ⟨t, rfl, by rw [← run_succ_of_step k s t hs]; exact h⟩
  | fault r =>
    have h' : Sys2Proof.core.step s = .fault r := hs
    simp only [Host.Core.run, h'] at h2
    cases h2
  | refused r =>
    have h' : Sys2Proof.core.step s = .refused r := hs
    simp only [Host.Core.run, h'] at h2
    cases h2

/-- An invariant of the step is one of every run. -/
theorem run_invariant (P : State → Prop) (keeps : ∀ s t, P s → step s = .next t → P t) (k : Nat) :
    ∀ s u, P s → run k s = .next u → P u := by
  induction k with
  | zero =>
    intro s u hs h
    rw [run_zero] at h
    cases h
    exact hs
  | succ k ih =>
    intro s u hs h
    obtain ⟨t, h1, h2⟩ := step_of_run_succ k s u h
    exact ih t u (keeps s t hs h1) h2

end Sys2Proof.Machine
end

