-- ==== Sys2Proof/Laws/Step.lean ====
section
/-! SUPPORT. Everything a command can do to the state, and everything one step of the block can do, each
said once. -/

namespace Sys2Proof.Machine

open Sys2Proof

/-- The ways in which a command changes the state: nothing (`NOP`), a value, a predicate, the second
result of `SINCOS` with the first, the missing result of `SQRTC`, or the UNSUPPORTED fault. -/
inductive Effect (s : State) : State → Prop where
  | nothing : Effect s s
  | value (res : Int) : Effect s (s.completeValue res)
  | predicate (t : Bool) : Effect s (s.completePredicate t)
  | pair (x y : Int) : Effect s { s.completeValue x with r2 := u64 y }
  | noResult : Effect s { s.setV false with r := 0#64 }
  | fault : Effect s (s.raiseFault .unsupported)

/-- Every command answers a next state, reached by one of the effects. -/
theorem exec_effect (i : Instr) (s : State) : ∃ t, exec i s = .next t ∧ Effect s t := by
  cases i
  case nop => exact ⟨_, rfl, .nothing⟩
  case sqrtc =>
    by_cases h : s.opA < 0
    · exact ⟨_, by simp only [exec, execSqrtc, if_pos h], .noResult⟩
    · exact ⟨s.completeValue (sqrtF s.wordA.toNat), by simp only [exec, execSqrtc, if_neg h],
        .value _⟩
  case sincos => exact ⟨_, rfl, .pair _ _⟩
  case cmpeq | cmpne | cmplt | cmple | isfinite | aeqabs | aeqrel | aequlp =>
    exact ⟨_, rfl, .predicate _⟩
  case ln | log2 | log10 | log1p | exp2 | expm1 | cbrt | sinh | cosh | tanh | asinh | acosh |
      atanh | hypot | powi | powf | powc =>
    exact ⟨_, rfl, .fault⟩
  all_goals exact ⟨_, rfl, .value _⟩

/-- What a command can do, from its outcome. -/
theorem effect_of_exec (i : Instr) (s t : State) (h : exec i s = .next t) : Effect s t := by
  obtain ⟨u, hu, e⟩ := exec_effect i s
  rw [hu] at h
  cases h
  exact e

/-- What the execution of a word can do: the command's effect, or the ILLEGAL fault (R75). -/
theorem executeWord_cases (w : Word) (s : State) :
    (∃ i t, decodeWord w = .ok i ∧ Effect s t ∧ executeWord w s = .next t) ∨
    ((∃ e, decodeWord w = .error e) ∧ executeWord w s = .next (s.raiseFault .illegal)) := by
  unfold executeWord
  cases h : decodeWord w with
  | ok i =>
    obtain ⟨t, ht, e⟩ := exec_effect i s
    exact .inl ⟨i, t, rfl, e, ht⟩
  | error e => exact .inr ⟨⟨e, rfl⟩, rfl⟩

/-- Everything one step can do: a change of `rst`; staying in reset; an access answered with `bus_err`
in reset; the platform holding an access off until the change of `rst` after it, or for good; the
execution of the issued word; one host access; or nothing at all. -/
theorem step_cases (s : State) :
    (∃ level rest, s.inbox = .rst level :: rest ∧ step s = .next (s.changeReset level rest)) ∨
    (s.rst = true ∧ s.inbox = [] ∧ step s = .next s) ∨
    (s.rst = true ∧ ∃ q rest, s.inbox = .access q :: rest ∧ Config.errorDuringReset = true ∧
      step s = .next { s with inbox := rest, reply := some (q.resetReply rest.length) }) ∨
    (s.rst = true ∧ ∃ q rest level rest', s.inbox = .access q :: rest ∧
      Config.errorDuringReset = false ∧ firstReset rest = some (level, rest') ∧
      step s = .next (s.changeReset level (.access q :: rest'))) ∨
    (s.rst = true ∧ ∃ q rest, s.inbox = .access q :: rest ∧ Config.errorDuringReset = false ∧
      firstReset rest = none ∧ step s = .fault .heldInReset) ∨
    (s.rst = false ∧ noResetNext s.inbox = true ∧ ∃ c t, s.issued = some c ∧
      executeWord c.cmd s = .next t ∧ step s = .next t.retire) ∨
    (s.rst = false ∧ s.issued = none ∧ ∃ q rest, s.inbox = .access q :: rest ∧
      step s = .next ({ s with inbox := rest }.perform q)) ∨
    (s.rst = false ∧ s.issued = none ∧ s.inbox = [] ∧ step s = .next s) := by
  have run : ∀ w, ∃ t, executeWord w s = .next t := by
    intro w
    rcases executeWord_cases w s with ⟨_, t, _, _, h⟩ | ⟨_, h⟩ <;> exact ⟨_, h⟩
  unfold step stepBlock
  cases hi : s.inbox with
  | nil =>
    cases hr : s.rst with
    | true => simp
    | false =>
      cases hc : s.issued with
      | none => simp
      | some c =>
        obtain ⟨t, ht⟩ := run c.cmd
        simp [ht, retireOutcome, noResetNext, noResets]
  | cons e rest =>
    cases e with
    | rst level => simp
    | access q =>
      cases hr : s.rst with
      | true =>
        cases hp : Config.errorDuringReset with
        | true => simp [accessInReset, hp, hr]
        | false =>
          cases hf : firstReset rest with
          | none => simp [accessInReset, hp, hf]
          | some p =>
            obtain ⟨level, rest'⟩ := p
            refine .inr (.inr (.inr (.inl ⟨rfl, q, rest, level, rest', rfl, rfl, hf, ?_⟩)))
            simp [accessInReset, hp, hf]
      | false =>
        cases hc : s.issued with
        | none => simp
        | some c =>
          obtain ⟨t, ht⟩ := run c.cmd
          simp [ht, retireOutcome, noResetNext, noResets]

end Sys2Proof.Machine
end

