-- ==== Sys2Proof/Tests/Slice0.lean ====
section
/-! SUPPORT. The model's own tests. Expected words come from the spec's examples and from 95_test_vectors.md;
the encodings are written out from 30_encoding.md R70, R73 and R74. The last part shows for each statement
with hypotheses a state that meets them. -/

set_option Elab.async false

namespace Sys2Proof.Tests

open Sys2Proof Sys2Proof.Machine

/-! ### Well-formedness: one ill-formed term for each check -/

theorem test_illformed_reserved : Command.wellFormed ⟨0x01#8, 0#8, 1#48⟩ = false := by decide
theorem test_illformed_op_low : Command.wellFormed ⟨0x0D#8, 0#8, 0#48⟩ = false := by decide
theorem test_illformed_op_high : Command.wellFormed ⟨0xFF#8, 0#8, 0#48⟩ = false := by decide
theorem test_illformed_conversion : Command.wellFormed ⟨0x60#8, 12#8, 0#48⟩ = false := by decide
theorem test_illformed_constant : Command.wellFormed ⟨0x70#8, 20#8, 0#48⟩ = false := by decide
theorem test_illformed_selector : Command.wellFormed ⟨0x30#8, 1#8, 0#48⟩ = false := by decide
theorem test_wellformed_edges : (Command.wellFormed ⟨0x61#8, 11#8, 0#48⟩ &&
    Command.wellFormed ⟨0x70#8, 19#8, 0#48⟩ && Command.wellFormed ⟨0x40#8, 0#8, 0#48⟩) = true := by decide

/-! ### Decoding: every command's word, written out from the encoding table -/

theorem test_decode_arith :
    [0x0000000000000000#64, 0x0000000000000001#64, 0x0000000000000002#64, 0x0000000000000003#64,
     0x0000000000000004#64, 0x0000000000000005#64, 0x0000000000000006#64, 0x0000000000000007#64,
     0x0000000000000008#64, 0x0000000000000009#64, 0x000000000000000A#64, 0x000000000000000B#64,
     0x000000000000000C#64].map
      (fun w => (decodeWord w).toOption) =
    [some .nop, some .add, some .sub, some .mul, some .div, some .rem, some .neg, some .abs,
     some .signum, some .cmpeq, some .cmpne, some .cmplt, some .cmple] := by decide

theorem test_decode_evaluator :
    [0x0000000000000010#64, 0x0000000000000011#64, 0x0000000000000012#64, 0x0000000000000013#64,
     0x0000000000000014#64, 0x0000000000000015#64, 0x0000000000000016#64, 0x0000000000000017#64,
     0x0000000000000018#64, 0x0000000000000019#64, 0x000000000000001A#64, 0x000000000000001B#64,
     0x000000000000001C#64, 0x000000000000001D#64, 0x000000000000001E#64, 0x000000000000001F#64,
     0x0000000000000020#64].map
      (fun w => (decodeWord w).toOption) =
    [some .floor, some .ceil, some .round, some .trunc, some .fract, some .sqrt, some .sqrtc,
     some .exp, some .sin, some .cos, some .tan, some .asin, some .acos, some .atan, some .atan2,
     some .sincos, some .isfinite] := by decide

theorem test_decode_unsupported :
    [0x0000000000000030#64, 0x0000000000000031#64, 0x0000000000000032#64, 0x0000000000000033#64,
     0x0000000000000034#64, 0x0000000000000035#64, 0x0000000000000036#64, 0x0000000000000037#64,
     0x0000000000000038#64, 0x0000000000000039#64, 0x000000000000003A#64, 0x000000000000003B#64,
     0x000000000000003C#64, 0x000000000000003D#64, 0x000000000000003E#64, 0x000000000000003F#64,
     0x0000000000000040#64].map
      (fun w => (decodeWord w).toOption) =
    [some .ln, some .log2, some .log10, some .log1p, some .exp2, some .expm1, some .cbrt,
     some .sinh, some .cosh, some .tanh, some .asinh, some .acosh, some .atanh, some .hypot,
     some .powi, some .powf, some .powc] := by decide

theorem test_decode_compare :
    [0x0000000000000050#64, 0x0000000000000051#64, 0x0000000000000052#64].map
      (fun w => (decodeWord w).toOption) =
    [some .aeqabs, some .aeqrel, some .aequlp] := by decide

theorem test_decode_cvtf :
    [0x0000000000000060#64, 0x0000000000000160#64, 0x0000000000000260#64, 0x0000000000000360#64,
     0x0000000000000460#64, 0x0000000000000560#64, 0x0000000000000660#64, 0x0000000000000760#64,
     0x0000000000000860#64, 0x0000000000000960#64, 0x0000000000000A60#64, 0x0000000000000B60#64].map
      (fun w => (decodeWord w).toOption) =
    [some .cvtfI8, some .cvtfI16, some .cvtfI32, some .cvtfI64, some .cvtfIsize, some .cvtfU8,
     some .cvtfU16, some .cvtfU32, some .cvtfU64, some .cvtfUsize, some .cvtfF32, some .cvtfF64] := by decide

theorem test_decode_cvtt :
    [0x0000000000000061#64, 0x0000000000000161#64, 0x0000000000000261#64, 0x0000000000000361#64,
     0x0000000000000461#64, 0x0000000000000561#64, 0x0000000000000661#64, 0x0000000000000761#64,
     0x0000000000000861#64, 0x0000000000000961#64, 0x0000000000000A61#64, 0x0000000000000B61#64].map
      (fun w => (decodeWord w).toOption) =
    [some .cvttI8, some .cvttI16, some .cvttI32, some .cvttI64, some .cvttIsize, some .cvttU8,
     some .cvttU16, some .cvttU32, some .cvttU64, some .cvttUsize, some .cvttF32, some .cvttF64] := by decide

theorem test_decode_ldc :
    [0x0000000000000070#64, 0x0000000000000170#64, 0x0000000000000270#64, 0x0000000000000370#64,
     0x0000000000000470#64, 0x0000000000000570#64, 0x0000000000000670#64, 0x0000000000000770#64,
     0x0000000000000870#64, 0x0000000000000970#64, 0x0000000000000A70#64, 0x0000000000000B70#64,
     0x0000000000000C70#64, 0x0000000000000D70#64, 0x0000000000000E70#64, 0x0000000000000F70#64,
     0x0000000000001070#64, 0x0000000000001170#64, 0x0000000000001270#64, 0x0000000000001370#64].map
      (fun w => (decodeWord w).toOption) =
    [some .ldcZero, some .ldcOne, some .ldcMin, some .ldcMax, some .ldcPi, some .ldcTwoPi,
     some .ldcFracPi2, some .ldcFracPi3, some .ldcFracPi4, some .ldcFracPi6, some .ldcFracPi8,
     some .ldcFrac1Pi, some .ldcFrac2Pi, some .ldcFrac2SqrtPi, some .ldcE, some .ldcLog2E,
     some .ldcLog10E, some .ldcLn2, some .ldcLn10, some .ldcDefaultEps] := by decide

/-- 95_test_vectors.md section 2.11: the words of the illegal space. -/
theorem test_decode_illegal :
    [0x0D#64, 0x0F#64, 0x21#64, 0x41#64, 0x53#64, 0x62#64, 0x71#64, 0xFF#64, 0x10001#64,
     0x8000000000000000#64, 0x101#64, 0x100#64, 0xC60#64, 0xFF61#64, 0x1470#64, 0x130#64].map
      (fun w => (decodeWord w).toOption) = List.replicate 16 none := by decide

theorem test_decode_bytes :
    decodeBytes [0x60#8, 0x0B#8, 0#8, 0#8, 0#8, 0#8, 0#8, 0#8, 7#8] = .ok (.cvtfF64, [7#8]) := by decide

theorem test_decode_truncated : decodeBytes [0x60#8] = .error .truncated := by decide

theorem test_decode_table_word : decodeTableWord 64 0x561 = some .cvttU8 := by decide

/-! ### One step per command: the word is written to `CMD` and executed -/

/-- `R` and `STATUS` after the word `w` executes from reset with the operands `a` and `b`. -/
def after (w : Nat) (a b : Word) : Option (Word × Word) :=
  match step (({ State.reset with a := a, b := b } : State).withFetchWord 64 w) with
  | .next t => some (t.r, t.status)
  | _ => none

theorem test_add :
    after 0x1 0x7FFFFFFFFFFFFFFF#64 0x0000000000000001#64 = some (0x7FFFFFFFFFFFFFFF#64, 2#64) ∧
    after 0x1 0x0000000180000000#64 0x0000000240000000#64 = some (0x00000003C0000000#64, 2#64) := by decide +kernel
theorem test_sub :
    after 0x2 0x0000000000000000#64 0x8000000000000000#64 = some (0x7FFFFFFFFFFFFFFF#64, 2#64) ∧
    after 0x2 0x0000000100000000#64 0x0000000300000000#64 = some (0xFFFFFFFE00000000#64, 2#64) := by decide +kernel
theorem test_mul :
    after 0x3 0xFFFFFFFFFFFFFFFF#64 0x0000000000000001#64 = some (0xFFFFFFFFFFFFFFFF#64, 2#64) ∧
    after 0x3 0xFFFFFFFE80000000#64 0x0000000280000000#64 = some (0xFFFFFFFC40000000#64, 2#64) := by decide +kernel
theorem test_div :
    after 0x4 0xFFFFFFFF00000000#64 0x0000000300000000#64 = some (0xFFFFFFFFAAAAAAAB#64, 2#64) ∧
    after 0x4 0xFFFFFFFF00000000#64 0x0000000000000000#64 = some (0x8000000000000000#64, 2#64) := by decide +kernel
theorem test_rem :
    after 0x5 0xFFFFFFFA80000000#64 0x0000000200000000#64 = some (0xFFFFFFFE80000000#64, 2#64) ∧
    after 0x5 0x0000000580000000#64 0xFFFFFFFE00000000#64 = some (0x0000000180000000#64, 2#64) := by decide +kernel
theorem test_neg :
    after 0x6 0x8000000000000000#64 0x0000000000000000#64 = some (0x7FFFFFFFFFFFFFFF#64, 2#64) ∧
    after 0x6 0x0000000100000000#64 0x0000000000000000#64 = some (0xFFFFFFFF00000000#64, 2#64) := by decide +kernel
theorem test_abs :
    after 0x7 0x8000000000000000#64 0x0000000000000000#64 = some (0x7FFFFFFFFFFFFFFF#64, 2#64) ∧
    after 0x7 0xFFFFFFFD80000000#64 0x0000000000000000#64 = some (0x0000000280000000#64, 2#64) := by decide +kernel
theorem test_signum :
    after 0x8 0x8000000000000000#64 0x0000000000000000#64 = some (0xFFFFFFFF00000000#64, 2#64) ∧
    after 0x8 0x0000000000000001#64 0x0000000000000000#64 = some (0x0000000100000000#64, 2#64) := by decide +kernel
theorem test_cmpeq :
    after 0x9 0x0000000100000000#64 0x0000000100000000#64 = some (0x0000000000000001#64, 3#64) ∧
    after 0x9 0x8000000000000000#64 0x7FFFFFFFFFFFFFFF#64 = some (0x0000000000000000#64, 2#64) := by decide +kernel
theorem test_cmpne :
    after 0xA 0xFFFFFFFFFFFFFFFF#64 0x0000000000000000#64 = some (0x0000000000000001#64, 3#64) ∧
    after 0xA 0x0000000100000000#64 0x0000000100000000#64 = some (0x0000000000000000#64, 2#64) := by decide +kernel
theorem test_cmplt :
    after 0xB 0xFFFFFFFFFFFFFFFF#64 0x0000000000000000#64 = some (0x0000000000000001#64, 3#64) ∧
    after 0xB 0x7FFFFFFFFFFFFFFF#64 0x8000000000000000#64 = some (0x0000000000000000#64, 2#64) := by decide +kernel
theorem test_cmple :
    after 0xC 0x0000000100000000#64 0x0000000100000000#64 = some (0x0000000000000001#64, 3#64) ∧
    after 0xC 0x7FFFFFFFFFFFFFFF#64 0x8000000000000000#64 = some (0x0000000000000000#64, 2#64) := by decide +kernel
theorem test_floor :
    after 0x10 0xFFFFFFFD80000000#64 0x0000000000000000#64 = some (0xFFFFFFFD00000000#64, 2#64) := by decide +kernel
theorem test_ceil :
    after 0x11 0xFFFFFFFD80000000#64 0x0000000000000000#64 = some (0xFFFFFFFE00000000#64, 2#64) ∧
    after 0x11 0x7FFFFFFFFFFFFFFF#64 0x0000000000000000#64 = some (0x7FFFFFFFFFFFFFFF#64, 2#64) := by decide +kernel
theorem test_round :
    after 0x12 0xFFFFFFFD80000000#64 0x0000000000000000#64 = some (0xFFFFFFFD00000000#64, 2#64) ∧
    after 0x12 0x7FFFFFFFFFFFFFFF#64 0x0000000000000000#64 = some (0x7FFFFFFFFFFFFFFF#64, 2#64) := by decide +kernel
theorem test_trunc :
    after 0x13 0xFFFFFFFD80000000#64 0x0000000000000000#64 = some (0xFFFFFFFE00000000#64, 2#64) := by decide +kernel
theorem test_fract :
    after 0x14 0xFFFFFFFD80000000#64 0x0000000000000000#64 = some (0xFFFFFFFF80000000#64, 2#64) := by decide +kernel
theorem test_sqrt :
    after 0x15 0x0000000200000000#64 0x0000000000000000#64 = some (0x000000016A09E667#64, 2#64) ∧
    after 0x15 0xFFFFFFFF00000000#64 0x0000000000000000#64 = some (0x0000FFFFFFFF7FFF#64, 2#64) := by decide +kernel
theorem test_sqrtc :
    after 0x16 0x0000000400000000#64 0x0000000000000000#64 = some (0x0000000200000000#64, 2#64) ∧
    after 0x16 0xFFFFFFFC00000000#64 0x0000000000000000#64 = some (0x0000000000000000#64, 0#64) := by decide +kernel
theorem test_exp :
    after 0x17 0x0000000100000000#64 0x0000000000000000#64 = some (0x00000002B7E1515A#64, 2#64) ∧
    after 0x17 0x000000157CD0E707#64 0x0000000000000000#64 = some (0x7FFFFFFF80000000#64, 2#64) := by decide +kernel
theorem test_sin :
    after 0x18 0xFFFFFFFF00000000#64 0x0000000000000000#64 = some (0xFFFFFFFF28955B8A#64, 2#64) ∧
    after 0x18 0x8000000000000000#64 0x0000000000000000#64 = some (0x00000000FC902D06#64, 2#64) := by decide +kernel
theorem test_cos :
    after 0x19 0x0000000100000000#64 0x0000000000000000#64 = some (0x000000008A514081#64, 2#64) ∧
    after 0x19 0x00000003243F6A89#64 0x0000000000000000#64 = some (0xFFFFFFFEFFFFFFF9#64, 2#64) := by decide +kernel
theorem test_tan :
    after 0x1A 0x0000000100000000#64 0x0000000000000000#64 = some (0x000000018EB245BE#64, 2#64) ∧
    after 0x1A 0x00000001921FB544#64 0x0000000000000000#64 = some (0x7FFFFFFFFFFFFFFF#64, 2#64) := by decide +kernel
theorem test_asin :
    after 0x1B 0xFFFFFFFF80000000#64 0x0000000000000000#64 = some (0xFFFFFFFF79F56E3F#64, 2#64) ∧
    after 0x1B 0x0000000200000000#64 0x0000000000000000#64 = some (0x00000001921FB549#64, 2#64) := by decide +kernel
theorem test_acos :
    after 0x1C 0x0000000080000000#64 0x0000000000000000#64 = some (0x000000010C152383#64, 2#64) ∧
    after 0x1C 0xFFFFFFFF80000000#64 0x0000000000000000#64 = some (0x00000002182A4706#64, 2#64) := by decide +kernel
theorem test_atan :
    after 0x1D 0x0000000080000000#64 0x0000000000000000#64 = some (0x0000000076B19C13#64, 2#64) := by decide +kernel
theorem test_atan2 :
    after 0x1E 0x0000000300000000#64 0x0000000400000000#64 = some (0x00000000A4BC7D19#64, 2#64) ∧
    after 0x1E 0x0000000100000000#64 0xFFFFFFFF00000000#64 = some (0x000000025B2F8FE7#64, 2#64) := by decide +kernel
theorem test_cvtfI8 :
    after 0x60 0x0000000000000080#64 0x0000000000000000#64 = some (0xFFFFFF8000000000#64, 2#64) ∧
    after 0x60 0xFFFFFFFFFFFFFF05#64 0x0000000000000000#64 = some (0x0000000500000000#64, 2#64) := by decide +kernel
theorem test_cvtfI16 :
    after 0x160 0x0000000000008000#64 0x0000000000000000#64 = some (0xFFFF800000000000#64, 2#64) := by decide +kernel
theorem test_cvtfI32 :
    after 0x260 0x00000001FFFFFFFF#64 0x0000000000000000#64 = some (0xFFFFFFFF00000000#64, 2#64) := by decide +kernel
theorem test_cvtfI64 :
    after 0x360 0xFFFFFFFF7FFFFFFF#64 0x0000000000000000#64 = some (0x8000000000000000#64, 2#64) := by decide +kernel
theorem test_cvtfIsize :
    after 0x460 0xFFFFFFFFFFFFFFF9#64 0x0000000000000000#64 = some (0xFFFFFFF900000000#64, 2#64) := by decide +kernel
theorem test_cvtfU8 :
    after 0x560 0x00000000000001FF#64 0x0000000000000000#64 = some (0x000000FF00000000#64, 2#64) := by decide +kernel
theorem test_cvtfU16 :
    after 0x660 0x000000000000FFFF#64 0x0000000000000000#64 = some (0x0000FFFF00000000#64, 2#64) := by decide +kernel
theorem test_cvtfU32 :
    after 0x760 0x0000000080000000#64 0x0000000000000000#64 = some (0x7FFFFFFFFFFFFFFF#64, 2#64) := by decide +kernel
theorem test_cvtfU64 :
    after 0x860 0xFFFFFFFFFFFFFFFF#64 0x0000000000000000#64 = some (0x7FFFFFFFFFFFFFFF#64, 2#64) := by decide +kernel
theorem test_cvtfUsize :
    after 0x960 0x0000000000000003#64 0x0000000000000000#64 = some (0x0000000300000000#64, 2#64) := by decide +kernel
theorem test_cvtfF32 :
    after 0xA60 0xFFFFFFFF3F800000#64 0x0000000000000000#64 = some (0x0000000100000000#64, 2#64) ∧
    after 0xA60 0x00000000BFC00000#64 0x0000000000000000#64 = some (0xFFFFFFFE80000000#64, 2#64) := by decide +kernel
theorem test_cvtfF64 :
    after 0xB60 0xBFB999999999999A#64 0x0000000000000000#64 = some (0xFFFFFFFFE6666667#64, 2#64) ∧
    after 0xB60 0x7FF8000000000000#64 0x0000000000000000#64 = some (0x0000000000000000#64, 2#64) := by decide +kernel
theorem test_cvttI8 :
    after 0x61 0xFFFFFFFA80000000#64 0x0000000000000000#64 = some (0xFFFFFFFFFFFFFFFB#64, 2#64) ∧
    after 0x61 0x000000C800000000#64 0x0000000000000000#64 = some (0x000000000000007F#64, 2#64) := by decide +kernel
theorem test_cvttI16 :
    after 0x161 0x00009C4000000000#64 0x0000000000000000#64 = some (0x0000000000007FFF#64, 2#64) := by decide +kernel
theorem test_cvttI32 :
    after 0x261 0x7FFFFFFFFFFFFFFF#64 0x0000000000000000#64 = some (0x000000007FFFFFFF#64, 2#64) := by decide +kernel
theorem test_cvttI64 :
    after 0x361 0x8000000000000000#64 0x0000000000000000#64 = some (0xFFFFFFFF80000000#64, 2#64) := by decide +kernel
theorem test_cvttIsize :
    after 0x461 0xFFFFFFFF00000000#64 0x0000000000000000#64 = some (0xFFFFFFFFFFFFFFFF#64, 2#64) := by decide +kernel
theorem test_cvttU8 :
    after 0x561 0xFFFFFFFF00000000#64 0x0000000000000000#64 = some (0x0000000000000000#64, 2#64) ∧
    after 0x561 0x0000010000000000#64 0x0000000000000000#64 = some (0x00000000000000FF#64, 2#64) := by decide +kernel
theorem test_cvttU16 :
    after 0x661 0x0000FFFF80000000#64 0x0000000000000000#64 = some (0x000000000000FFFF#64, 2#64) := by decide +kernel
theorem test_cvttU32 :
    after 0x761 0x7FFFFFFFFFFFFFFF#64 0x0000000000000000#64 = some (0x000000007FFFFFFF#64, 2#64) := by decide +kernel
theorem test_cvttU64 :
    after 0x861 0x7FFFFFFFFFFFFFFF#64 0x0000000000000000#64 = some (0x000000007FFFFFFF#64, 2#64) := by decide +kernel
theorem test_cvttUsize :
    after 0x961 0x0000002A80000000#64 0x0000000000000000#64 = some (0x000000000000002A#64, 2#64) := by decide +kernel
theorem test_cvttF32 :
    after 0xA61 0x00000003243F6A89#64 0x0000000000000000#64 = some (0x0000000040490FDB#64, 2#64) ∧
    after 0xA61 0xFFFFFFFFFFFFFFFF#64 0x0000000000000000#64 = some (0x00000000AF800000#64, 2#64) := by decide +kernel
theorem test_cvttF64 :
    after 0xB61 0x0020000000000003#64 0x0000000000000000#64 = some (0x4140000000000002#64, 2#64) ∧
    after 0xB61 0x003FFFFFFFFFFFFF#64 0x0000000000000000#64 = some (0x4150000000000000#64, 2#64) := by decide +kernel

theorem test_nop : after 0x0 5#64 6#64 = some (0#64, 0#64) := by decide
theorem test_isfinite : after 0x20 0x8000000000000000#64 0#64 = some (1#64, 3#64) := by decide

/-- `R` and `R2` after `SINCOS` of `a`, from reset. -/
def afterSincos (a : Word) : Option (Word × Word) :=
  match step (({ State.reset with a := a } : State).withFetchWord 64 0x1F) with
  | .next t => some (t.r, t.r2)
  | _ => none

theorem test_sincos :
    afterSincos 0x00000000C90FDAA2#64 = some (0x00000000B504F330#64, 0x00000000B504F335#64) ∧
    afterSincos 0x00000003243F6A89#64 = some (0xFFFFFFFFFFFFFFFF#64, 0xFFFFFFFEFFFFFFF9#64) := by
  decide +kernel

/-- 95_test_vectors.md section 2.7: `STATUS` is 0x1100 and `R` is unchanged. -/
theorem test_unsupported :
    [0x30, 0x31, 0x32, 0x33, 0x34, 0x35, 0x36, 0x37, 0x38, 0x39, 0x3A, 0x3B, 0x3C, 0x3D, 0x3E,
     0x3F, 0x40].map
      (fun w => after w 1#64 2#64) = List.replicate 17 (some (0#64, 0x1100#64)) := by decide

/-- 95_test_vectors.md section 2.10. -/
theorem test_ldc :
    [0x70, 0x170, 0x270, 0x370, 0x470, 0x570, 0x670, 0x770, 0x870, 0x970, 0xA70, 0xB70, 0xC70,
     0xD70, 0xE70, 0xF70, 0x1070, 0x1170, 0x1270, 0x1370].map
      (fun w => (after w 1#64 2#64).map (·.1)) =
    [some 0x0000000000000000#64, some 0x0000000100000000#64, some 0x8000000000000000#64,
     some 0x7FFFFFFFFFFFFFFF#64, some 0x00000003243F6A89#64, some 0x00000006487ED511#64,
     some 0x00000001921FB544#64, some 0x000000010C152383#64, some 0x00000000C90FDAA2#64,
     some 0x00000000860A91C1#64, some 0x000000006487ED51#64, some 0x00000000517CC1B7#64,
     some 0x00000000A2F9836E#64, some 0x0000000120DD7504#64, some 0x00000002B7E15163#64,
     some 0x0000000171547653#64, some 0x000000006F2DEC55#64, some 0x00000000B17217F8#64,
     some 0x000000024D763777#64, some 0x0000000000000016#64] := by decide +kernel

/-- 95_test_vectors.md section 2.11: an illegal word reports cause 2, over UNSUPPORTED (R276). -/
theorem test_illegal_word : after 0x130 1#64 2#64 = some (0#64, 0x2100#64) := by decide

/-- 95_test_vectors.md section 2.11: a fault keeps the earlier `T` and `V`. -/
theorem test_fault_keeps_flags :
    ((({ State.reset with status := 3#64 } : State).raiseFault .illegal).status) = 0x2103#64 := by decide

/-- `T` after a compare of `a` and `b` under the given tolerances. -/
def afterCompare (w : Nat) (a b eps maxrel maxulp : Word) : Option Word :=
  match step (({ State.reset with
      a := a, b := b, eps := eps, maxrel := maxrel, maxulp := maxulp } : State).withFetchWord 64 w) with
  | .next t => some t.status
  | _ => none

theorem test_aeqabs :
    afterCompare 0x50 0x0000000100000000#64 0x0000000100000017#64
      0x0000000000000016#64 0x0000000000000016#64 0x0000000000000004#64 = some 2#64 ∧
    afterCompare 0x50 0x0000000100000000#64 0x0000000100000000#64
      0xFFFFFFFFFFFFFFFF#64 0x0000000000000016#64 0x0000000000000004#64 = some 2#64 := by decide +kernel
theorem test_aeqrel :
    afterCompare 0x51 0x000003E800000000#64 0x000003E8000055F0#64
      0x0000000000000000#64 0x0000000000000016#64 0x0000000000000004#64 = some 3#64 ∧
    afterCompare 0x51 0x000003E800000000#64 0x000003E8000055F1#64
      0x0000000000000000#64 0x0000000000000016#64 0x0000000000000004#64 = some 2#64 := by decide +kernel
theorem test_aequlp :
    afterCompare 0x52 0xFFFFFFFFFFFFFFFF#64 0x0000000000000001#64
      0x0000000000000016#64 0x0000000000000016#64 0x0000000000000004#64 = some 3#64 ∧
    afterCompare 0x52 0xFFFFFFFFFFFFFFFF#64 0x0000000000000001#64
      0x0000000000000000#64 0x0000000000000016#64 0x0000000000000004#64 = some 2#64 := by decide +kernel

/-! ### The register window (95_test_vectors.md section 2.12) -/

/-- The state from reset with the given accesses waiting. -/
def waiting (l : List BusAccess) : State := { State.reset with inbox := l.map .access }

/-- The reply and `CMD` after the first access. -/
def replyTo (q : BusAccess) : Option (Option BusReply × Word) :=
  match step (waiting [q]) with
  | .next t => some (t.reply, t.cmd)
  | _ => none

theorem test_read_eps : replyTo ⟨0x30#8, 8#4, false, 0#64⟩ = some (some ⟨false, some 0x16#64⟩, 0#64) := by
  decide
theorem test_read_reserved : replyTo ⟨0xF8#8, 8#4, false, 0#64⟩ = some (some ⟨false, some 0#64⟩, 0#64) := by
  decide
theorem test_read_misaligned : replyTo ⟨0x04#8, 8#4, false, 0#64⟩ = some (some ⟨true, some 0#64⟩, 0#64) := by
  decide
theorem test_write_narrow : replyTo ⟨0x10#8, 4#4, true, 0x30#64⟩ = some (some ⟨true, none⟩, 0#64) := by
  decide
theorem test_write_cmd : replyTo ⟨0x10#8, 8#4, true, 0x30#64⟩ = some (some ⟨false, none⟩, 0x30#64) := by
  decide
theorem test_byte_zero :
    ({ State.reset with a := 0x0102030405060708#64 } : State).windowByte 0 = 0x08#8 := by decide

/-- A write to `CMD` while faulted is ignored (60_exceptions.md R274). -/
theorem test_write_cmd_faulted :
    ({ State.reset with status := 0x1100#64, cmd := 0x30#64 } : State).perform (commandWrite 0x15#64) =
      { State.reset with
        status := 0x1100#64, cmd := 0x30#64, reply := some { err := false, rdata := none } } := by decide

/-! ### States that meet the hypotheses of the statements -/

/-- A block in the middle of `ADD`, with some history in its registers. -/
def busy : State :=
  { State.reset with a := 5#64, b := 0xFFFFFFFFFFFFFFFF#64, status := 3#64, r := 1#64 }.withFetchWord 64 0x1

/-- A faulted block on which the host writes a command and then reads `STATUS`. -/
def faulted : State :=
  { State.reset with
    status := 0x1100#64, cmd := 0x30#64
    inbox := [.access (commandWrite 0x15#64), .access ⟨0x18#8, 8#4, false, 0#64⟩] }

/-- A block held in reset with an access waiting. -/
def heldInReset : State := { State.reset with rst := true, inbox := [.access (commandWrite 0x1#64)] }

theorem test_witness_ByteLayoutKeepsTheCommand : decodeWord 0x1370#64 = .ok .ldcDefaultEps := by decide

theorem test_witness_ResetAbandonsEverything :
    ({ busy with inbox := [.rst true] } : State).inbox = .rst true :: [] ∧
    ({ heldInReset with inbox := [.rst false] } : State).rst = true ∧
    ({ heldInReset with inbox := [.rst false] } : State).inbox = .rst false :: [] := by decide

/-- The clause with an access before the change of `rst`, for whichever platform. -/
theorem test_witness_ResetAbandonsEverything_waiting :
    ∃ (s : State) (q : BusAccess) (rest before after : List HostEvent) (level : Bool), s.rst = true ∧
      s.HeldInResetState ∧ s.inbox = .access q :: rest ∧ rest = before ++ .rst level :: after ∧
      noResets before = true ∧ (Config.errorDuringReset = true ∨ Config.errorDuringReset = false) :=
  ⟨{ heldInReset with inbox := [.access (commandWrite 0x1#64), .rst false] }, commandWrite 0x1#64,
    [.rst false], [], [], false, by decide, by decide, by decide, by decide, by decide,
    by cases Config.errorDuringReset <;> simp⟩

theorem test_witness_NoAccessIsPerformedInReset :
    heldInReset.rst = true ∧ noResets heldInReset.inbox = true ∧
    Host.Core.run Sys2Proof.core 0 heldInReset = .next heldInReset ∧
    Host.Core.run Sys2Proof.core 3 { State.reset with rst := true } =
      .next { State.reset with rst := true } :=
  ⟨by decide, by decide, rfl, rfl⟩

theorem test_witness_ReadReturnsTheRegister :
    (∀ off ∈ [0x00, 0x08, 0x10, 0x18, 0x20, 0x28, 0x30, 0x38, 0x40, 0x48, 0xF8],
      off < 256 ∧ off % 8 = 0) ∧
    (waiting [⟨0x40#8, 8#4, false, 0#64⟩]).Idle := by decide

theorem test_witness_WriteChangesOnlyTheRegisterItNames :
    (waiting [⟨0x10#8, 8#4, true, 1#64⟩]).Idle ∧ (waiting [⟨0x10#8, 8#4, true, 1#64⟩]).flagFault = false ∧
    faulted.Idle ∧ faulted.flagFault = true := by decide

theorem test_witness_OtherAccessesGetBusErr :
    (waiting [⟨0x04#8, 8#4, false, 0#64⟩]).Idle ∧ (0x04#8).toNat % 8 ≠ 0 ∧ (4#4 : BitVec 4) ≠ 8#4 := by
  decide

theorem test_witness_WindowBytesAreLittleEndian :
    (0x40 % 8 = 0 ∧ 7 < 8 ∧ 7 < 8) := by decide

theorem test_witness_ReadAfterWriteReturnsTheValue :
    (waiting [⟨0x38#8, 8#4, true, 9#64⟩, ⟨0x38#8, 8#4, false, 0#64⟩]).Idle ∧
    0x38#8 ∈ [0x00#8, 0x08#8, 0x30#8, 0x38#8, 0x40#8] := by decide

theorem test_witness_AccessWaitsWhileBusy :
    ({ busy with inbox := [.access (commandWrite 0x2#64)] } : State).rst = false ∧
    ({ busy with inbox := [.access (commandWrite 0x2#64)] } : State).issued = some busy.live := by decide

theorem test_witness_StepRunsTheDecodedCommand :
    busy.Executes busy.live ∧ decodeWord busy.live.cmd = .ok .add := by decide

theorem test_witness_CommandWriteRunsTheCommand :
    (waiting [commandWrite (encode .sincos)]).Idle ∧
    (waiting [commandWrite (encode .sincos)]).flagFault = false ∧ noResetNext [] = true := by decide

theorem test_witness_FaultsAreExactlyTheListedOnes :
    ∀ w ∈ [0x20, 0x30, 0x40, 0x41, 0x1370, 0x1470],
      (State.reset.withFetchWord 64 w).Executes (State.reset.withFetchWord 64 w).live ∧
      (State.reset.withFetchWord 64 w).flagFault = false := by decide

theorem test_witness_IllegalWordOnlyEntersTheFault :
    (State.reset.withFetchWord 64 0x130).Executes (State.reset.withFetchWord 64 0x130).live ∧
    (commandOfWord 0x130#64).wellFormed = false := by decide

theorem test_witness_UnsupportedFunctionsFault :
    0 < unsupportedInstrs.length ∧ 16 < unsupportedInstrs.length ∧ (0 < 1 ∧ 1 < 256) ∧ (0 < 255 ∧ 255 < 256) := by
  decide

theorem test_witness_FaultIsFinalUntilReset :
    faulted.Inv ∧ faulted.flagFault = true ∧ noResets faulted.inbox = true ∧
    ∃ t, Host.Core.run Sys2Proof.core 2 faulted = .next t :=
  ⟨by decide, by decide, by decide, _, rfl⟩

theorem test_witness_AddAndSubSaturate : busy.LatchAgrees ∧ (waiting []).LatchAgrees := by decide
theorem test_witness_MulFloorsAndSaturates : busy.LatchAgrees ∧ (waiting []).LatchAgrees := by decide
theorem test_witness_DivAndRemTruncate : busy.LatchAgrees ∧ (waiting []).LatchAgrees := by decide
theorem test_witness_NegAbsAndSignum : busy.LatchAgrees ∧ (waiting []).LatchAgrees := by decide
theorem test_witness_ComparesFollowTheSignedOrder : busy.LatchAgrees ∧ (waiting []).LatchAgrees := by decide
theorem test_witness_RoundingCommands : busy.LatchAgrees ∧ (waiting []).LatchAgrees := by decide
theorem test_witness_SquareRootCommands : busy.LatchAgrees ∧ (waiting []).LatchAgrees := by decide
theorem test_witness_ExpCommand : busy.LatchAgrees ∧ (waiting []).LatchAgrees := by decide
theorem test_witness_AbsoluteTier : busy.LatchAgrees ∧ (waiting []).LatchAgrees := by decide
theorem test_witness_RelativeTier : busy.LatchAgrees ∧ (waiting []).LatchAgrees := by decide

/-- `A = B = 0` with negative `EPS` and `MAXREL`, where R203's pseudocode and corner case differ. -/
def negativeTolerances : State :=
  { State.reset with eps := 0xFFFFFFFFFFFFFFFF#64, maxrel := 0xFFFFFFFFFFFFFFFF#64 }

theorem test_witness_RelativeTier_zero :
    negativeTolerances.LatchAgrees ∧ negativeTolerances.a = 0#64 ∧ negativeTolerances.b = 0#64 ∧
    negativeTolerances.eps.toInt < 0 ∧ negativeTolerances.maxrel.toInt < 0 := by decide

/-- The pseudocode of R203 at 0 and 0: the bound `MUL(0, -1)` is 0 (log entry 14). -/
theorem test_aeqrel_zero_negative :
    (match exec .aeqrel negativeTolerances with
      | .next t => some (t.flagT, t.r)
      | _ => none) = some (true, 1#64) := by decide

theorem test_witness_UlpTier : busy.LatchAgrees ∧ (waiting []).LatchAgrees := by decide
theorem test_witness_ConvertFromIntegers : busy.LatchAgrees ∧ (waiting []).LatchAgrees := by decide
theorem test_witness_ConvertFromFloats : busy.LatchAgrees ∧ (waiting []).LatchAgrees := by decide
theorem test_witness_ConvertToFloats :
    busy.LatchAgrees ∧ (waiting []).LatchAgrees ∧ busy.a ≠ 0#64 := by decide

theorem test_witness_ConvertToIntegers :
    busy.LatchAgrees ∧ ∃ n : Int, n = Int.tdiv busy.a.toInt (2 ^ 32) := ⟨by decide, _, rfl⟩

theorem test_witness_QuotientAndRemainderRecompose : (-1 : Int) ≠ 0 := by decide

theorem test_witness_RootStepsGiveTheFloorRoot : 2 ^ 64 - 1 < 2 ^ 64 := by decide

theorem test_witness_ExpSaturatesAndUnderflows :
    (31 : Int) ≤ 31 * 2977044472 / 2977044472 ∧ (-33 * 2977044472 - 1 : Int) / 2977044472 ≤ -34 ∧
    (-33 * 2977044472 - 1 : Int) < -33 * 2977044472 := by decide

theorem test_witness_ExpMantissaBoundsAndThresholds :
    ((0 : Int) ≤ 0 ∧ (0 : Int) < 2977044472) ∧ ((0 : Int) ≤ 2977044471 ∧ (2977044471 : Int) < 2977044472) := by
  decide

theorem test_witness_SineCosineAndTangent :
    busy.LatchAgrees ∧ ∃ k x y : Int, k = (busy.a.toInt + 6746518852) / 13493037705 ∧
      x = (if k % 2 = 1 then -1 else 1) * (ruleRotate (busy.a.toInt - k * 13493037705)).1 ∧
      y = (if k % 2 = 1 then -1 else 1) * (ruleRotate (busy.a.toInt - k * 13493037705)).2.1 :=
  ⟨by decide, _, _, _, rfl, rfl, rfl⟩

theorem test_witness_RotationStaysBelow34Bits :
    ((-6746518852 : Int) ≤ -6746518852 ∧ (-6746518852 : Int) < 6746518853) ∧
    ((-6746518852 : Int) ≤ 6746518852 ∧ (6746518852 : Int) < 6746518853) := by decide

theorem test_witness_InverseTrigonometricCommands :
    busy.LatchAgrees ∧ ∃ (c : Int) (leg : Nat), c = max (-(2 ^ 32)) (min busy.a.toInt (2 ^ 32)) ∧
      leg = Nat.sqrt ((2 ^ 32 - c * c / 2 ^ 32).toNat * 2 ^ 32) :=
  ⟨by decide, _, _, rfl, rfl⟩

theorem test_witness_VectoringAngleIsBounded :
    ((-2 ^ 63 : Int) ≤ -2 ^ 63 ∧ (-2 ^ 63 : Int) < 2 ^ 63) ∧
    ((-2 ^ 63 : Int) ≤ 2 ^ 63 - 1 ∧ (2 ^ 63 - 1 : Int) < 2 ^ 63) := by decide

theorem test_witness_VectoringIsExactOnTheAxis : (0 : Int) ≤ 0 ∧ (-1 : Int) < 0 := by decide

theorem test_witness_SymmetricCommands :
    Instr.mul ∈ [Instr.add, .mul, .cmpeq, .cmpne, .aeqabs, .aeqrel, .aequlp] ∧
    ({ State.reset with a := 1#64, b := 2#64 } : State).issued = none := by decide

theorem test_witness_RoundTripThroughBinary64 :
    ({ State.reset with a := 0x0020000000000003#64 } : State).issued = none := by decide

theorem test_witness_RoundTripThroughBinary32 :
    ({ State.reset with a := 0xFFFFFF00#64 } : State).issued = none ∧
    significantBits 24 ({ State.reset with a := 0xFFFFFF00#64 } : State).a.toInt :=
  ⟨rfl, 0xFFFFFF, 8, by decide, by decide⟩

theorem test_witness_LoadConstants :
    (Instr.ldcPi, 4, 0x00000003243F6A89#64) ∈
      [(Instr.ldcZero, 0, 0x0000000000000000#64), (.ldcPi, 4, 0x00000003243F6A89#64)] := by decide

theorem test_witness_CommandFrame :
    (∃ t, exec .add busy = .next t) ∧ (∃ t, exec .sincos busy = .next t) ∧
    (∃ t, exec .ln busy = .next t) ∧ Instr.add ∉ predicateInstrs ∧ Instr.ln ∈ unsupportedInstrs ∧
    2 ∉ [0, 1, 8, 12, 13, 14, 15] ∧ 0x17 < 0x18 ∧ 0x30 ≤ 0x30 :=
  ⟨⟨_, rfl⟩, ⟨_, rfl⟩, ⟨_, rfl⟩, by decide, by decide, by decide, by decide, by decide⟩

theorem test_witness_ResultsDependOnOperandsAlone :
    busy.operands.a = { busy with r := 7#64, status := 0#64 }.operands.a ∧
    busy.operands.b = { busy with r := 7#64, status := 0#64 }.operands.b ∧
    busy.operands.eps = { busy with r := 7#64, status := 0#64 }.operands.eps ∧
    busy.operands.maxrel = { busy with r := 7#64, status := 0#64 }.operands.maxrel ∧
    busy.operands.maxulp = { busy with r := 7#64, status := 0#64 }.operands.maxulp ∧
    busy ≠ { busy with r := 7#64, status := 0#64 } := by decide

theorem test_witness_EveryStepKeepsTheInvariant : busy.Inv ∧ ∃ t, step busy = .next t :=
  ⟨by decide, _, rfl⟩

theorem test_witness_EveryAccessCompletes :
    faulted.rst = false ∧ noResets faulted.inbox = true ∧ busy.rst = false ∧ noResets busy.inbox = true := by
  decide

/-- With a platform that holds accesses off, an access in reset has no step (93_implementation_defined.md
I10). -/
theorem test_held_access_has_no_step (h : Config.errorDuringReset = false) :
    step heldInReset = .fault .heldInReset := by
  simp [step, stepBlock, heldInReset, accessInReset, firstReset, h]

/-- With a platform that answers `bus_err`, the block is as before but for the reply (R300). -/
theorem test_refused_access_in_reset (h : Config.errorDuringReset = true) :
    step heldInReset = .next { State.reset with rst := true, reply := some ⟨true, none⟩ } := by
  simp only [step, stepBlock, heldInReset, accessInReset, h, if_true]
  rfl

end Sys2Proof.Tests
end

section
/-! The fields of `STATUS` and the interrupt output right after reset (10_state.md R41): each is read off the
zero word that `State.reset_status` gives. -/

namespace Sys2Proof.Machine

open Sys2Proof

@[simp] theorem State.reset_flagT : State.reset.flagT = false := by simp [State.flagT]

@[simp] theorem State.reset_flagV : State.reset.flagV = false := by simp [State.flagV]

@[simp] theorem State.reset_flagFault : State.reset.flagFault = false := by simp [State.flagFault]

@[simp] theorem State.reset_cause : State.reset.cause = 0#4 := by simp [State.cause]

/-- `fault_irq` is the level of `STATUS.FAULT` (60_exceptions.md R275). -/
@[simp] theorem State.reset_faultIrq : State.reset.faultIrq = false := State.reset_flagFault

/-- Settles O5: the registers by the field lemmas of the reset state, and the fields of `STATUS` by R41's
"so", from `STATUS = 0`. -/
theorem resetState : Obligations.ResetState :=
  ⟨State.reset_a, State.reset_b, State.reset_cmd, State.reset_r, State.reset_r2, State.reset_status,
    State.reset_flagT, State.reset_flagV, State.reset_flagFault, State.reset_cause, State.reset_eps,
    State.reset_maxrel, State.reset_maxulp, State.reset_issued, State.reset_faultIrq⟩

end Sys2Proof.Machine
end

section
/-! The register window as a host reads it (20_memory.md R50 to R52): where a host address reaches the block,
which accesses are admitted, and the step in which an idle block performs an access. -/

namespace Sys2Proof.Machine

open Sys2Proof

/-- Every offset of the 256-byte window is reached at `FXU_BASE` plus that offset (R50). -/
theorem windowOffset_fxuBase_add (off : Nat) (h : off < 256) :
    windowOffset (Config.fxuBase + off) = some (BitVec.ofNat 8 off) := by
  simp [windowOffset, h]

/-- The access that an 8-byte read at an offset of the window puts on the port (R50). -/
theorem memRead_fxuBase_add (off : Nat) (h : off < 256) :
    memRead (Config.fxuBase + off) 8 = some ⟨BitVec.ofNat 8 off, 8#4, false, 0#64⟩ := by
  simp [memRead, windowOffset_fxuBase_add off h, busSize]

/-- An access is admitted exactly when it is 8 bytes wide and aligned to 8 bytes (R51). -/
theorem BusAccess.admitted_iff (q : BusAccess) :
    q.admitted = true ↔ q.size = 8#4 ∧ q.addr.toNat % 8 = 0 := by
  simp [BusAccess.admitted]

/-- An access is turned away exactly when it has another width or is misaligned (R51). -/
theorem BusAccess.admitted_eq_false_iff (q : BusAccess) :
    q.admitted = false ↔ q.size ≠ 8#4 ∨ q.addr.toNat % 8 ≠ 0 := by
  rw [← Bool.not_eq_true, q.admitted_iff, not_and_or]

@[simp] theorem BusAccess.errorReply_err (q : BusAccess) : q.errorReply.err = true := rfl

/-- A read that is not admitted is answered with data 0 (R51). -/
theorem BusAccess.errorReply_rdata_of_read (q : BusAccess) (rd : q.we = false) :
    q.errorReply.rdata = some 0#64 := by
  simp [BusAccess.errorReply, rd]

/-- The register map of R23, with 0 at the reserved offsets (R38), as a test of the offset. -/
theorem State.register_eq_ite (s : State) (off : Nat) :
    s.register off =
      if off = 0x00 then s.a else if off = 0x08 then s.b else if off = 0x10 then s.cmd
      else if off = 0x18 then s.status else if off = 0x20 then s.r else if off = 0x28 then s.r2
      else if off = 0x30 then s.eps else if off = 0x38 then s.maxrel
      else if off = 0x40 then s.maxulp else 0#64 := by
  unfold State.register
  split <;> simp_all

/-- An idle block performs the access that has arrived first (R57). -/
theorem step_of_idle_access (s : State) (q : BusAccess) (rest : List HostEvent) (idle : s.Idle)
    (first : s.inbox = .access q :: rest) : step s = .next ({ s with inbox := rest }.perform q) := by
  obtain ⟨released, unissued⟩ := idle
  simpa [released, unissued, first] using step_cases s

/-- Settles O8: the read reaches the block at its offset, is admitted, and is performed by an idle block with
no effect but the reply, which holds the register of R23's map. -/
theorem readReturnsTheRegister : Obligations.ReadReturnsTheRegister := by
  intro off inWindow aligned
  refine ⟨_, memRead_fxuBase_add off inWindow, ?_⟩
  rintro s rest idle first v rfl
  have offset : (BitVec.ofNat 8 off).toNat = off := Nat.mod_eq_of_lt inWindow
  rw [step_of_idle_access s _ rest idle first,
    perform_read _ _ ((BusAccess.admitted_iff _).2 ⟨rfl, by rw [offset, aligned]⟩) rfl,
    offset, State.register_eq_ite]

/-- Settles O10: an access of another width or at a misaligned offset is not admitted, so all that the step
of an idle block changes is the reply, which is an error. -/
theorem otherAccessesGetBusErr : Obligations.OtherAccessesGetBusErr := by
  intro s q rest idle first unfit
  refine ⟨q.errorReply, q.errorReply_err, q.errorReply_rdata_of_read, ?_⟩
  rw [step_of_idle_access s q rest idle first, perform_error _ q (q.admitted_eq_false_iff.2 unfit)]

end Sys2Proof.Machine
end

section
/-! The arithmetic core (40_arith.md R102 to R114). The completions of R100 and R101 on the latched operands
come first, once for every command; then the functions on raw words, as integer arithmetic; then what each
command does on registers that the latch agrees with. -/

namespace Sys2Proof.Machine

open Sys2Proof

/-! ### Completion on the latched operands -/

section

variable {s : State} (latch : s.LatchAgrees)
include latch

/-- A value of both operands is a value of the registers (R100, R305). -/
theorem completeValue_of_latchAgrees (f : Int → Int → Int) :
    s.completeValue (f s.opA s.opB) = s.afterValue (f s.a.toInt s.b.toInt) := by
  rw [completeValue_eq_afterValue, opA_of_latchAgrees s latch, opB_of_latchAgrees s latch]

/-- A value of the first operand alone is a value of `A` (R100, R305). -/
theorem completeValue_of_latchAgrees_unary (f : Int → Int) :
    s.completeValue (f s.opA) = s.afterValue (f s.a.toInt) :=
  completeValue_of_latchAgrees latch fun a _ => f a

/-- A predicate of the operand words is a predicate of the registers (R101, R305). -/
theorem completePredicate_of_latchAgrees (p : Word → Word → Bool) :
    s.completePredicate (p s.wordA s.wordB) = s.afterPredicate (p s.a s.b) := by
  rw [completePredicate_eq_afterPredicate, wordA_of_latchAgrees s latch, wordB_of_latchAgrees s latch]

end

/-! ### The functions on raw words -/

theorem addRaw_eq_clampRaw (a b : Int) : addRaw a b = clampRaw (a + b) := sat64_eq_clampRaw _

theorem subRaw_eq_clampRaw (a b : Int) : subRaw a b = clampRaw (a - b) := sat64_eq_clampRaw _

theorem negRaw_eq_clampRaw (a : Int) : negRaw a = clampRaw (-a) := sat64_eq_clampRaw _

theorem absRaw_eq_clampRaw (a : Int) : absRaw a = clampRaw |a| := sat64_eq_clampRaw _

/-- Dropping the bits below `2^-32` is the division that rounds down (R105). -/
theorem mulRaw_eq_clampRaw (a b : Int) : mulRaw a b = clampRaw (a * b / 2 ^ 32) := by
  rw [mulRaw, sat64_eq_clampRaw, floorDiv_eq_ediv _ _ (by positivity)]

/-- Division by zero answers by the sign of the dividend (R106). -/
theorem divRaw_zero (a : Int) :
    divRaw a 0 = if 0 < a then 9223372036854775807 else if a < 0 then -9223372036854775808 else 0 :=
  if_pos rfl

/-- The quotient of scalars is that of the raw words times `2^32` (R106). -/
theorem divRaw_of_ne_zero (a : Int) {b : Int} (hb : b ≠ 0) :
    divRaw a b = clampRaw (Int.tdiv (a * 2 ^ 32) b) := by
  rw [divRaw, if_neg hb, sat64_eq_clampRaw, truncDiv]

theorem remRaw_zero (a : Int) : remRaw a 0 = 0 := if_pos rfl

/-- The remainder of the division that truncates has the sign of the dividend (R107). -/
theorem remRaw_of_ne_zero (a : Int) {b : Int} (hb : b ≠ 0) : remRaw a b = Int.tmod a b := by
  rw [remRaw, if_neg hb, truncDiv, Int.tmod_def]

/-- `ONE` in the direction of the operand (R110). -/
theorem signumRaw_eq_sign_mul (a : Int) : signumRaw a = Int.sign a * 2 ^ 32 := by
  unfold signumRaw Config.one
  rcases lt_trichotomy a 0 with neg | rfl | pos
  · rw [if_neg (by omega), if_pos neg, Int.sign_eq_neg_one_of_neg neg]
    rfl
  · rfl
  · rw [if_pos pos, Int.sign_eq_one_of_pos pos]
    rfl

/-! ### The commands on the registers -/

section

variable {s : State} (latch : s.LatchAgrees)
include latch

theorem exec_add : exec .add s = .next (s.afterValue (addRaw s.a.toInt s.b.toInt)) :=
  congrArg _ (completeValue_of_latchAgrees latch addRaw)

theorem exec_sub : exec .sub s = .next (s.afterValue (subRaw s.a.toInt s.b.toInt)) :=
  congrArg _ (completeValue_of_latchAgrees latch subRaw)

theorem exec_mul : exec .mul s = .next (s.afterValue (mulRaw s.a.toInt s.b.toInt)) :=
  congrArg _ (completeValue_of_latchAgrees latch mulRaw)

theorem exec_div : exec .div s = .next (s.afterValue (divRaw s.a.toInt s.b.toInt)) :=
  congrArg _ (completeValue_of_latchAgrees latch divRaw)

theorem exec_rem : exec .rem s = .next (s.afterValue (remRaw s.a.toInt s.b.toInt)) :=
  congrArg _ (completeValue_of_latchAgrees latch remRaw)

theorem exec_neg : exec .neg s = .next (s.afterValue (negRaw s.a.toInt)) :=
  congrArg _ (completeValue_of_latchAgrees_unary latch negRaw)

theorem exec_abs : exec .abs s = .next (s.afterValue (absRaw s.a.toInt)) :=
  congrArg _ (completeValue_of_latchAgrees_unary latch absRaw)

theorem exec_signum : exec .signum s = .next (s.afterValue (signumRaw s.a.toInt)) :=
  congrArg _ (completeValue_of_latchAgrees_unary latch signumRaw)

theorem exec_cmpeq : exec .cmpeq s = .next (s.afterPredicate (decide (s.a = s.b))) :=
  congrArg _ (completePredicate_of_latchAgrees latch fun a b => decide (a = b))

theorem exec_cmpne : exec .cmpne s = .next (s.afterPredicate (decide (s.a ≠ s.b))) :=
  congrArg _ (completePredicate_of_latchAgrees latch fun a b => decide (a ≠ b))

theorem exec_cmplt : exec .cmplt s = .next (s.afterPredicate (decide (s.a.toInt < s.b.toInt))) :=
  congrArg _ (completePredicate_of_latchAgrees latch fun a b => decide (s64 a < s64 b))

theorem exec_cmple : exec .cmple s = .next (s.afterPredicate (decide (s.a.toInt ≤ s.b.toInt))) :=
  congrArg _ (completePredicate_of_latchAgrees latch fun a b => decide (s64 a ≤ s64 b))

end

/-! ### The statements -/

/-- Settles O20: the meaning of `NOP` answers the state it is given (R102), without a completion. -/
theorem nopChangesNothing : Obligations.NopChangesNothing := ⟨rfl, fun _ => rfl⟩

/-- Settles O21: each command completes with its function of the registers, which saturates the exact sum or
difference once. -/
theorem addAndSubSaturate : Obligations.AddAndSubSaturate := by
  refine ⟨rfl, rfl, fun s latch => ⟨?_, ?_⟩⟩
  · rw [exec_add latch, addRaw_eq_clampRaw]
  · rw [exec_sub latch, subRaw_eq_clampRaw]

/-- Settles O22: the floored quotient of the model is integer division, since `2^32` is positive. -/
theorem mulFloorsAndSaturates : Obligations.MulFloorsAndSaturates := by
  refine ⟨rfl, fun s latch => ?_⟩
  rw [exec_mul latch, mulRaw_eq_clampRaw]

/-- Settles O23, by the two rules of R106 and R107 for a zero and a nonzero divisor. -/
theorem divAndRemTruncate : Obligations.DivAndRemTruncate := by
  refine ⟨rfl, rfl, fun s latch => ?_⟩
  rw [exec_div latch, exec_rem latch]
  by_cases zero : s.b = 0#64
  · rw [if_pos zero, if_pos zero, zero, BitVec.toInt_zero, divRaw_zero, remRaw_zero]
    exact ⟨rfl, rfl⟩
  · have nonzero : s.b.toInt ≠ 0 := BitVec.toInt_ne.2 zero
    rw [if_neg zero, if_neg zero, divRaw_of_ne_zero _ nonzero, remRaw_of_ne_zero _ nonzero]
    exact ⟨rfl, rfl⟩

/-- Settles O25: negation and absolute value saturate the exact result, and the sign is scaled to a scalar. -/
theorem negAbsAndSignum : Obligations.NegAbsAndSignum := by
  refine ⟨rfl, rfl, rfl, fun s latch => ⟨?_, ?_, ?_⟩⟩
  · rw [exec_neg latch, negRaw_eq_clampRaw]
  · rw [exec_abs latch, absRaw_eq_clampRaw]
  · rw [exec_signum latch, signumRaw_eq_sign_mul]

/-- Settles O26: equality is tested on the words of the registers, order on their two's-complement values. -/
theorem comparesFollowTheSignedOrder : Obligations.ComparesFollowTheSignedOrder :=
  ⟨rfl, rfl, rfl, rfl, fun _ latch =>
    ⟨exec_cmpeq latch, exec_cmpne latch, exec_cmplt latch, exec_cmple latch⟩⟩

end Sys2Proof.Machine
end

section
/-! Rounding to an integer and the fractional part (41_evaluator.md R140 to R144): the functions on raw words
as floored, ceiled and truncated division by `2^32`, then the commands. -/

namespace Sys2Proof.Machine

open Sys2Proof

/-! ### The functions on raw words -/

theorem clampRaw_of_range {v : Int} (lo : -9223372036854775808 ≤ v) (hi : v ≤ 9223372036854775807) :
    clampRaw v = v := by
  rw [clampRaw, min_eq_left hi, max_eq_right lo]

/-- Dropping the fractional bits rounds down (R140). -/
theorem floorRaw_eq_ediv_mul (a : Int) : floorRaw a = a / 2 ^ 32 * 2 ^ 32 := by
  unfold floorRaw
  omega

/-- Rounding up is rounding the negated value down (R141). An integral word is its own ceiling, which the
bounds keep from the saturation. -/
theorem ceilRaw_eq_clampRaw {a : Int} (lo : -9223372036854775808 ≤ a) (hi : a ≤ 9223372036854775807) :
    ceilRaw a = clampRaw (-(-a / 2 ^ 32) * 2 ^ 32) := by
  unfold ceilRaw
  split
  next integral =>
    have exact : -(-a / 2 ^ 32) * 2 ^ 32 = a := by omega
    rw [exact, clampRaw_of_range lo hi]
  next fractional =>
    have up : a - a % 2 ^ 32 + 2 ^ 32 = -(-a / 2 ^ 32) * 2 ^ 32 := by omega
    rw [sat64_eq_clampRaw, up]

/-- The magnitude is rounded half up and takes the sign of the operand (R142). -/
theorem roundRaw_eq_clampRaw (a : Int) :
    roundRaw a = clampRaw (Int.sign a * ((|a| + 2 ^ 31) / 2 ^ 32 * 2 ^ 32)) := by
  unfold roundRaw
  rw [sat64_eq_clampRaw, floorDiv_eq_ediv _ _ (by positivity)]
  rcases lt_trichotomy a 0 with neg | rfl | pos
  · rw [if_neg (by omega), Int.sign_eq_neg_one_of_neg neg, neg_one_mul]
  · rfl
  · rw [if_pos pos.le, Int.sign_eq_one_of_pos pos, one_mul]

/-- Dropping the fractional bits of the magnitude is the division that truncates (R143). -/
theorem truncRaw_eq_tdiv_mul (a : Int) : truncRaw a = Int.tdiv a (2 ^ 32) * 2 ^ 32 := by
  unfold truncRaw
  split
  next nonneg =>
    rw [Int.tdiv_eq_ediv_of_nonneg nonneg]
    omega
  next neg =>
    have magnitude : a = -|a| := by rw [abs_of_neg (by omega), neg_neg]
    conv_rhs => rw [magnitude, Int.neg_tdiv, Int.tdiv_eq_ediv_of_nonneg (abs_nonneg a)]
    omega

/-- What truncation leaves is the remainder of the division that truncates (R144). -/
theorem fractRaw_eq_tmod (a : Int) : fractRaw a = Int.tmod a (2 ^ 32) := by
  rw [fractRaw, truncRaw_eq_tdiv_mul, Int.tmod_def, mul_comm]

/-! ### The commands on the registers -/

section

variable {s : State} (latch : s.LatchAgrees)
include latch

theorem exec_floor : exec .floor s = .next (s.afterValue (floorRaw s.a.toInt)) :=
  congrArg _ (completeValue_of_latchAgrees_unary latch floorRaw)

theorem exec_ceil : exec .ceil s = .next (s.afterValue (ceilRaw s.a.toInt)) :=
  congrArg _ (completeValue_of_latchAgrees_unary latch ceilRaw)

theorem exec_round : exec .round s = .next (s.afterValue (roundRaw s.a.toInt)) :=
  congrArg _ (completeValue_of_latchAgrees_unary latch roundRaw)

theorem exec_trunc : exec .trunc s = .next (s.afterValue (truncRaw s.a.toInt)) :=
  congrArg _ (completeValue_of_latchAgrees_unary latch truncRaw)

theorem exec_fract : exec .fract s = .next (s.afterValue (fractRaw s.a.toInt)) :=
  congrArg _ (completeValue_of_latchAgrees_unary latch fractRaw)

end

/-- Settles O27: each command completes with its function of the register, which is one integer division by
`2^32`; only `CEIL` needs that the operand is a 64-bit word. -/
theorem roundingCommands : Obligations.RoundingCommands := by
  refine ⟨rfl, rfl, rfl, rfl, rfl, fun s latch => ⟨?_, ?_, ?_, ?_, ?_⟩⟩
  · rw [exec_floor latch, floorRaw_eq_ediv_mul]
  · obtain ⟨lo, hi⟩ := s64_range s.a
    rw [exec_ceil latch, ceilRaw_eq_clampRaw (a := s.a.toInt) lo hi]
  · rw [exec_round latch, roundRaw_eq_clampRaw]
  · rw [exec_trunc latch, truncRaw_eq_tdiv_mul]
  · rw [exec_fract latch, fractRaw_eq_tmod]

end Sys2Proof.Machine
end

section
/-! The square root by one step per result bit (41_evaluator.md R145 to R147). -/

namespace Sys2Proof.Machine

open Sys2Proof

/-- The steps of R145 keep the floor root in `[root, root + 2^k)`, where `k` steps remain, and each halves
that interval. -/
theorem rootSteps_eq_sqrt (radicand k root : Nat) (lo : root * root ≤ radicand)
    (hi : radicand < (root + 2 ^ k) * (root + 2 ^ k)) :
    rootSteps radicand k root = Nat.sqrt radicand := by
  induction k generalizing root with
  | zero => exact Nat.eq_sqrt.2 ⟨lo, hi⟩
  | succ k ih =>
    simp only [rootSteps]
    split
    next fits =>
      refine ih _ fits ?_
      rwa [add_assoc, ← two_mul, ← pow_succ']
    next exceeds => exact ih root lo (not_le.1 exceeds)

/-- `SQRTF` of a 64-bit operand is the floor root of its radicand (R145): the root is below `2^48`. -/
theorem sqrtF_eq_sqrt {n : Nat} (h : n < 2 ^ 64) : sqrtF n = Nat.sqrt (n * 2 ^ 32) :=
  rootSteps_eq_sqrt _ 48 0 (Nat.zero_le _) (by omega)

/-- Settles O28: the characterisation of the floor root by its square and the next one; the radicand is
below `2^96`. -/
theorem rootStepsGiveTheFloorRoot : Obligations.RootStepsGiveTheFloorRoot := by
  intro n bound
  rw [sqrtF_eq_sqrt bound]
  exact ⟨Nat.sqrt_le _, Nat.lt_succ_sqrt _, Nat.sqrt_lt.2 (by omega)⟩

/-- The unchecked root reads the raw word as unsigned (R146). -/
theorem exec_sqrt {s : State} (latch : s.LatchAgrees) :
    exec .sqrt s = .next (s.afterValue (sqrtF s.a.toNat)) := by
  rw [← completeValue_eq_afterValue, ← wordA_of_latchAgrees s latch]
  rfl

/-- Clearing `V` (R31, R147). -/
theorem withBit_V_false (v : Word) : withBit v 1 false = v &&& ~~~2#64 := BitVec.or_zero

/-- A negative operand has no checked root (R147). -/
theorem exec_sqrtc_of_neg {s : State} (latch : s.LatchAgrees) (neg : s.a.toInt < 0) :
    exec .sqrtc s = .next { s with r := 0#64, status := s.status &&& ~~~2#64 } := by
  rw [← opA_of_latchAgrees s latch] at neg
  rw [← withBit_V_false]
  exact congrArg _ (if_pos neg)

/-- On any other operand the checked root is the unchecked one (R147). -/
theorem exec_sqrtc_of_nonneg {s : State} (latch : s.LatchAgrees) (nonneg : ¬ s.a.toInt < 0) :
    exec .sqrtc s = exec .sqrt s := by
  rw [← opA_of_latchAgrees s latch] at nonneg
  exact congrArg _ (if_neg nonneg)

/-- Settles O29: every word is below `2^64`, so both commands write the floor root of R145, unless `SQRTC`
meets a negative operand. -/
theorem squareRootCommands : Obligations.SquareRootCommands := by
  refine ⟨rfl, rfl, fun s latch => ?_⟩
  have root : exec .sqrt s = .next (s.afterValue (Nat.sqrt (s.a.toNat * 2 ^ 32))) := by
    rw [exec_sqrt latch, sqrtF_eq_sqrt s.a.isLt]
  refine ⟨root, ?_⟩
  split
  next neg => exact exec_sqrtc_of_neg latch neg
  next nonneg => rw [exec_sqrtc_of_nonneg latch nonneg, root]

end Sys2Proof.Machine
end

section
/-! Circular CORDIC (41_evaluator.md R160 to R175). The model folds an iteration over the table with its
indices; the rules' loops count the index themselves. One lemma joins the two forms, for both modes; the
commands follow. -/

namespace Sys2Proof.Machine

open Sys2Proof

/-! ### The loops -/

/-- The registers of the loop as the rules' loops return them. -/
def Cordic.registers (c : Cordic) : Int × Int × Int := (c.x, c.y, c.z)

@[simp] theorem Cordic.registers_x (c : Cordic) : c.registers.1 = c.x := rfl
@[simp] theorem Cordic.registers_y (c : Cordic) : c.registers.2.1 = c.y := rfl
@[simp] theorem Cordic.registers_z (c : Cordic) : c.registers.2.2 = c.z := rfl

/-- The entries of a table with their indices, from `i` on. -/
def indexedFrom (i : Nat) (entries : List Int) : List (Nat × Int) := (entries.zipIdx i).map Prod.swap

theorem indexedFrom_cons (i : Nat) (t : Int) (rest : List Int) :
    indexedFrom i (t :: rest) = (i, t) :: indexedFrom (i + 1) rest := rfl

/-- The model's table is that of R160. -/
theorem atanTable_eq_indexedFrom : atanTable = indexedFrom 0 ruleAtan := rfl

/-- R160 has 32 entries, one for each iteration. -/
theorem take_ruleAtan : ruleAtan.take 32 = ruleAtan := rfl

/-- A loop that does one iteration for each entry and counts the index is the fold of the iteration over
the indexed entries. -/
theorem loop_eq_registers_foldl {iteration : Cordic → Nat × Int → Cordic}
    {loop : Nat → List Int → Int → Int → Int → Int × Int × Int}
    (loop_nil : ∀ i (c : Cordic), loop i [] c.x c.y c.z = c.registers)
    (loop_cons : ∀ i t rest (c d : Cordic), iteration c (i, t) = d →
      loop i (t :: rest) c.x c.y c.z = loop (i + 1) rest d.x d.y d.z)
    (entries : List Int) (i : Nat) (c : Cordic) :
    loop i entries c.x c.y c.z = ((indexedFrom i entries).foldl iteration c).registers := by
  induction entries generalizing i c with
  | nil => exact loop_nil i c
  | cons t rest ih => rw [indexedFrom_cons, List.foldl_cons, loop_cons i t rest c _ rfl, ih]

/-- The loop of R163 is the fold of the model's iteration in rotation mode. -/
theorem ruleRotateLoop_eq_foldl (entries : List Int) (i : Nat) (c : Cordic) :
    ruleRotateLoop i entries c.x c.y c.z =
      ((indexedFrom i entries).foldl rotateIteration c).registers := by
  refine loop_eq_registers_foldl (fun _ _ => rfl) ?_ entries i c
  rintro i t rest c d rfl
  rw [ruleRotateLoop, rotateIteration]
  split <;> simp only [rotateLeft, rotateRight, shr_eq_ediv]

/-- The loop of R170 is the fold of the model's iteration in vectoring mode. -/
theorem ruleVectorLoop_eq_foldl (entries : List Int) (i : Nat) (c : Cordic) :
    ruleVectorLoop i entries c.x c.y c.z =
      ((indexedFrom i entries).foldl vectorIteration c).registers := by
  refine loop_eq_registers_foldl (fun _ _ => rfl) ?_ entries i c
  rintro i t rest c d rfl
  rw [ruleVectorLoop, vectorIteration]
  split
  · simp only [rotateLeft, shr_eq_ediv]
  · split <;> simp only [rotateRight, shr_eq_ediv]

/-- `ROTATE` is the rule's (R163). -/
theorem ruleRotate_eq_registers (r : Int) : ruleRotate r = (rotate r).registers := by
  rw [rotate, atanTable_eq_indexedFrom]
  exact ruleRotateLoop_eq_foldl ruleAtan 0 ⟨cordicGain, 0, r⟩

/-- The vectoring loop after its first `n` iterations is the rule's (R170), with the rotation by `PI` before
it. -/
theorem ruleVector_eq_registers (n : Nat) (y x : Int) :
    ruleVector n y x =
      ((indexedFrom 0 (ruleAtan.take n)).foldl vectorIteration (vectorStart y x)).registers := by
  rw [← ruleVectorLoop_eq_foldl, ruleVector, vectorStart]
  split <;> rfl

/-- `ATAN2F` is the rule's (R170). -/
theorem atan2F_eq_ruleAtan2 (y x : Int) : atan2F y x = ruleAtan2 y x := by
  rw [atan2F, ruleAtan2, ruleVector_eq_registers, take_ruleAtan, Cordic.registers_z,
    atanTable_eq_indexedFrom]

/-! ### Sine, cosine and tangent -/

/-- The quotient of R162, with the constants of R261 written out. -/
theorem reduceQuotient_eq_ediv (a : Int) : reduceQuotient a = (a + 6746518852) / 13493037705 :=
  floorDiv_eq_ediv _ _ (by decide)

/-- An odd number of half turns negates both results of the rotation (R164, R165). -/
theorem sinCosRaw_eq_mul (a : Int) :
    sinCosRaw a =
      ((if reduceQuotient a % 2 = 1 then -1 else 1) * (rotate (reduceAngle a)).y,
        (if reduceQuotient a % 2 = 1 then -1 else 1) * (rotate (reduceAngle a)).x) := by
  unfold sinCosRaw
  split
  · rw [neg_one_mul, neg_one_mul]
  · rw [one_mul, one_mul]

/-- The sine and the cosine by the rule's quotient and the rule's loop (R162 to R165). -/
theorem sinCosRaw_eq_ruleRotate {a k : Int} (quotient : k = (a + 6746518852) / 13493037705) :
    sinCosRaw a =
      ((if k % 2 = 1 then -1 else 1) * (ruleRotate (a - k * 13493037705)).2.1,
        (if k % 2 = 1 then -1 else 1) * (ruleRotate (a - k * 13493037705)).1) := by
  rw [← reduceQuotient_eq_ediv] at quotient
  rw [sinCosRaw_eq_mul, quotient, ruleRotate_eq_registers, Cordic.registers_x, Cordic.registers_y,
    reduceAngle, piRaw]

/-- The rule of `DIV` (R106), both cases. -/
theorem divRaw_eq_ite (a b : Int) :
    divRaw a b =
      if b = 0 then
        (if 0 < a then 9223372036854775807 else if a < 0 then -9223372036854775808 else 0)
      else clampRaw (Int.tdiv (a * 2 ^ 32) b) := by
  split
  next zero => rw [zero, divRaw_zero]
  next nonzero => exact divRaw_of_ne_zero a nonzero

section

variable {s : State} (latch : s.LatchAgrees)
include latch

theorem exec_sin : exec .sin s = .next (s.afterValue (sinCosRaw s.a.toInt).1) :=
  congrArg _ (completeValue_of_latchAgrees_unary latch fun a => (sinCosRaw a).1)

theorem exec_cos : exec .cos s = .next (s.afterValue (sinCosRaw s.a.toInt).2) :=
  congrArg _ (completeValue_of_latchAgrees_unary latch fun a => (sinCosRaw a).2)

/-- `R` and `R2` are written together (R166). -/
theorem exec_sincos :
    exec .sincos s = .next { s.afterValue (sinCosRaw s.a.toInt).1 with
      r2 := BitVec.ofInt 64 (sinCosRaw s.a.toInt).2 } := by
  rw [← completeValue_eq_afterValue, ← opA_of_latchAgrees s latch]
  rfl

theorem exec_tan :
    exec .tan s = .next (s.afterValue (divRaw (sinCosRaw s.a.toInt).1 (sinCosRaw s.a.toInt).2)) :=
  congrArg _ (completeValue_of_latchAgrees_unary latch fun a => divRaw (sinCosRaw a).1 (sinCosRaw a).2)

end

/-- Settles O34: all four commands write parts of the pair `(y, x)` that the rule's quotient and loop give, or
its quotient by the rule of `DIV`. -/
theorem sineCosineAndTangent : Obligations.SineCosineAndTangent := by
  refine ⟨rfl, rfl, rfl, rfl, fun s k x y latch quotient cosine sine => ?_⟩
  have pair : sinCosRaw s.a.toInt = (y, x) := by rw [sinCosRaw_eq_ruleRotate quotient, sine, cosine]
  refine ⟨?_, ?_, ?_, ?_⟩
  · rw [exec_sin latch, pair]
  · rw [exec_cos latch, pair]
  · rw [exec_sincos latch, pair]
  · rw [exec_tan latch, pair, divRaw_eq_ite]

/-! ### The arctangents, the arcsine and the arccosine -/

theorem one_eq_two_pow : Config.one = 2 ^ 32 := rfl

/-- The clamp of R173 with the bounds in the other order, which meet the same since `-ONE ≤ ONE`. -/
theorem clampOne_eq_max_min (a : Int) : clampOne a = max (-(2 ^ 32)) (min a (2 ^ 32)) := by
  rw [clampOne, one_eq_two_pow]
  omega

/-- The square of a number in `[-1, 1]` lies in `[0, 1]`. -/
theorem mul_self_ediv_le_one {c : Int} (lo : -(2 ^ 32) ≤ c) (hi : c ≤ 2 ^ 32) :
    0 ≤ c * c / 2 ^ 32 ∧ c * c / 2 ^ 32 ≤ 2 ^ 32 := by
  have nonneg : 0 ≤ c * c := mul_self_nonneg c
  have le : c * c ≤ 2 ^ 32 * 2 ^ 32 := abs_le_iff_mul_self_le.1 (abs_le_abs hi (by omega))
  omega

/-- The other leg of R173 for a number in `[-1, 1]`: the square does not saturate, and what it leaves of `ONE`
is within the operands of R145. -/
theorem coLeg_eq_sqrt {c : Int} (lo : -(2 ^ 32) ≤ c) (hi : c ≤ 2 ^ 32) :
    coLeg c = Nat.sqrt ((2 ^ 32 - c * c / 2 ^ 32).toNat * 2 ^ 32) := by
  obtain ⟨nonneg, leOne⟩ := mul_self_ediv_le_one lo hi
  rw [coLeg, mulRaw_eq_clampRaw, clampRaw_of_range (by omega) (by omega), one_eq_two_pow,
    sqrtF_eq_sqrt (by omega)]

section

variable {s : State} (latch : s.LatchAgrees)
include latch

theorem exec_atan2 : exec .atan2 s = .next (s.afterValue (atan2F s.a.toInt s.b.toInt)) :=
  congrArg _ (completeValue_of_latchAgrees latch atan2F)

theorem exec_atan : exec .atan s = .next (s.afterValue (atan2F s.a.toInt Config.one)) :=
  congrArg _ (completeValue_of_latchAgrees_unary latch fun a => atan2F a Config.one)

theorem exec_asin :
    exec .asin s = .next (s.afterValue
      (atan2F (clampOne s.a.toInt) (coLeg (clampOne s.a.toInt)))) :=
  congrArg _ (completeValue_of_latchAgrees_unary latch fun a => atan2F (clampOne a) (coLeg (clampOne a)))

theorem exec_acos :
    exec .acos s = .next (s.afterValue
      (atan2F (coLeg (clampOne s.a.toInt)) (clampOne s.a.toInt))) :=
  congrArg _ (completeValue_of_latchAgrees_unary latch fun a => atan2F (coLeg (clampOne a)) (clampOne a))

end

/-- Settles O38: all four commands write `ATAN2F`, which is the rule's; the legs of `ASIN` and `ACOS` are the
clamped operand and the floor root of what its square leaves of `ONE`. -/
theorem inverseTrigonometricCommands : Obligations.InverseTrigonometricCommands := by
  refine ⟨rfl, rfl, rfl, rfl, fun s c leg latch clamped root => ?_⟩
  have coLeg_eq : coLeg c = leg := by rw [coLeg_eq_sqrt (by omega) (by omega), root]
  rw [← clampOne_eq_max_min] at clamped
  simp only [← atan2F_eq_ruleAtan2]
  refine ⟨exec_atan2 latch, exec_atan latch, ?_, ?_⟩
  · rw [exec_asin latch, ← clamped, coLeg_eq]
  · rw [exec_acos latch, ← clamped, coLeg_eq]

/-! ### The classification -/

/-- Settles O41: `ISFINITE` reads no operand and completes with true, whatever the sequencer holds (R175). -/
theorem isFiniteIsAlwaysTrue : Obligations.IsFiniteIsAlwaysTrue :=
  ⟨rfl, fun s => congrArg _ (completePredicate_eq_afterPredicate s true)⟩

end Sys2Proof.Machine
end

section
/-! The unsupported functions (41_evaluator.md R180 to R197): their words, the fault they take, and the words
that their opcodes make with a selector (30_encoding.md R72, R75). -/

namespace Sys2Proof.Machine

open Sys2Proof

/-- The opcodes of the unsupported commands are 0x30 to 0x40, in the order of the list (R74). -/
theorem plainCommand_unsupported (n : Fin unsupportedInstrs.length) :
    plainCommand (0x30 + n) = some unsupportedInstrs[n] := by
  revert n
  decide

theorem encode_unsupported (n : Fin unsupportedInstrs.length) :
    encode unsupportedInstrs[n] = BitVec.ofNat 64 (0x30 + n) := by
  revert n
  decide

/-- An unsupported command takes the fault with cause 1, whatever the state (R180). -/
theorem exec_of_mem_unsupportedInstrs {i : Instr} (h : i ∈ unsupportedInstrs) (s : State) :
    exec i s = .next (s.afterFault 1#64) := by
  have fault : unsupportedFunction s = .next (s.afterFault 1#64) :=
    congrArg _ (raiseFault_eq_afterFault s .unsupported)
  rw [← fault]
  unfold unsupportedInstrs at h
  fin_cases h <;> rfl

/-- The fields of the word `op + 256 * sel` (R70). -/
theorem commandOfWord_ofNat {op sel : Nat} (hop : op < 256) (hsel : sel < 256) :
    commandOfWord (BitVec.ofNat 64 (op + 256 * sel)) =
      ⟨BitVec.ofNat 8 op, BitVec.ofNat 8 sel, 0#48⟩ := by
  simp only [commandOfWord, Command.mk.injEq]
  refine ⟨?_, ?_, ?_⟩ <;> apply BitVec.eq_of_toNat_eq <;>
    simp only [BitVec.extractLsb'_toNat, BitVec.toNat_ofNat, Nat.shiftRight_eq_div_pow] <;> omega

/-- A nonzero selector beside an opcode that takes none is an error by that name (R72, R75). -/
theorem decodeCommand_of_selector {c : Command} {i : Instr} (rsv : c.rsv = 0#48)
    (plain : plainCommand c.op.toNat = some i) (sel : c.sel ≠ 0#8) :
    decodeCommand c = .error .selectorNotZero := by
  have noSelector : ∀ op ∈ [0x60#8, 0x61#8, 0x70#8], c.op ≠ op := by
    rintro op among rfl
    have unmapped : plainCommand c.op.toNat = none := by
      generalize c.op = op at among
      fin_cases among <;> rfl
    rw [unmapped] at plain
    cases plain
  unfold decodeCommand
  rw [if_neg (not_not.2 rsv), if_neg (noSelector _ (by simp)), if_neg (noSelector _ (by simp)),
    if_neg (noSelector _ (by simp)), plain]
  exact if_neg sel

/-- Settles O18: the opcodes by the opcode map, the fault by the one meaning that the 17 commands share, and
the words with a selector by the order of the decoder's tests. -/
theorem unsupportedFunctionsFault : Obligations.UnsupportedFunctionsFault := by
  intro n inList
  refine ⟨encode_unsupported ⟨n, inList⟩, exec_of_mem_unsupportedInstrs (List.getElem_mem inList), ?_⟩
  intro sel pos bound
  have opcode : 0x30 + n < 256 := by
    have : unsupportedInstrs.length = 17 := rfl
    omega
  rw [decodeWord, commandOfWord_ofNat opcode bound]
  refine decodeCommand_of_selector (i := unsupportedInstrs[n]) rfl ?_ ?_
  · rw [BitVec.toNat_ofNat, Nat.mod_eq_of_lt opcode]
    exact plainCommand_unsupported ⟨n, inList⟩
  · intro zero
    have := congrArg BitVec.toNat zero
    rw [BitVec.toNat_ofNat, Nat.mod_eq_of_lt bound] at this
    exact pos.ne' this

end Sys2Proof.Machine
end

section
/-! The approximate-equality comparator (42_compare.md R200, R202, R204): the tests on raw words over the distance
held at `MAX`, then the commands. -/

namespace Sys2Proof.Machine

open Sys2Proof

/-! ### The tests on raw words -/

/-- The magnitude of a saturated difference saturates where the exact magnitude does (R200): a difference held
at `MIN` has the magnitude `MAX + 1`, which `ABS` holds at `MAX`. -/
theorem clampRaw_abs_clampRaw (d : Int) : clampRaw |clampRaw d| = min |d| 9223372036854775807 := by
  unfold clampRaw
  rcases le_total 0 d with nonneg | nonpos
  · rw [abs_of_nonneg nonneg, abs_of_nonneg (by omega)]
    omega
  · rw [abs_of_nonpos nonpos, abs_of_nonpos (by omega)]
    omega

/-- `ABSDIFF` is the exact distance held at `MAX` (R200). -/
theorem absDiff_eq_rawDistance (a b : Int) : absDiff a b = rawDistance a b := by
  rw [absDiff, absRaw_eq_clampRaw, subRaw_eq_clampRaw, clampRaw_abs_clampRaw, rawDistance]

/-- The absolute tier (R202). -/
theorem equalAbsolute_eq_decide (a b eps : Int) :
    equalAbsolute a b eps = decide (rawDistance a b ≤ eps) := by
  rw [equalAbsolute, absDiff_eq_rawDistance]

/-- The sign of a raw word is its top bit, so zero counts as non-negative (R204). -/
theorem msb_eq_msb_iff (a b : Word) : a.msb = b.msb ↔ (a.toInt < 0) = (b.toInt < 0) := by
  rw [BitVec.msb_eq_toInt, BitVec.msb_eq_toInt, decide_eq_decide, eq_iff_iff]

/-- The raw-distance tier on words (R204): its tests in order are one disjunction. -/
theorem equalUlp_toInt_eq_decide (a b : Word) (eps maxulp : Int) :
    equalUlp a.toInt b.toInt eps maxulp =
      decide (rawDistance a.toInt b.toInt ≤ eps ∨
        (a.msb = b.msb ∧ |a.toInt - b.toInt| ≤ maxulp)) := by
  rw [equalUlp, absDiff_eq_rawDistance]
  split
  next within => rw [decide_eq_true (Or.inl within)]
  next beyond =>
    split
    next differ =>
      have signs : ¬ a.msb = b.msb := mt (msb_eq_msb_iff a b).1 differ
      rw [decide_eq_false (not_or.2 ⟨beyond, not_and_of_not_left _ signs⟩)]
    next agree =>
      have signs : a.msb = b.msb := (msb_eq_msb_iff a b).2 (not_not.1 agree)
      rw [decide_eq_decide, or_iff_right beyond, and_iff_right signs]

/-! ### The commands on the registers -/

section

variable {s : State} (latch : s.LatchAgrees)
include latch

theorem exec_aeqabs :
    exec .aeqabs s = .next (s.afterPredicate (equalAbsolute s.a.toInt s.b.toInt s.eps.toInt)) := by
  rw [← completePredicate_eq_afterPredicate, ← opA_of_latchAgrees s latch,
    ← opB_of_latchAgrees s latch, ← opEps_of_latchAgrees s latch]
  rfl

/-- `EPS` is read as signed and `MAXULP` as unsigned (R204). -/
theorem exec_aequlp :
    exec .aequlp s =
      .next (s.afterPredicate (equalUlp s.a.toInt s.b.toInt s.eps.toInt s.maxulp.toNat)) := by
  rw [← completePredicate_eq_afterPredicate, ← opA_of_latchAgrees s latch,
    ← opB_of_latchAgrees s latch, ← opEps_of_latchAgrees s latch, ← opMaxulp_of_latchAgrees s latch]
  rfl

end

/-! ### The statements -/

/-- Settles O43: the command completes with the absolute tier of the registers, which compares the distance held
at `MAX` with `EPS`. -/
theorem absoluteTier : Obligations.AbsoluteTier := by
  refine ⟨rfl, fun s latch => ?_⟩
  rw [exec_aeqabs latch, equalAbsolute_eq_decide]

/-- Settles O45: the command completes with the raw-distance tier of the registers, whose test of the
signs is one of the top bits. -/
theorem ulpTier : Obligations.UlpTier := by
  refine ⟨rfl, fun s latch => ?_⟩
  rw [exec_aequlp latch, equalUlp_toInt_eq_decide]

end Sys2Proof.Machine
end

section
/-! The conversions from and to integers and from floats (43_convert.md R221, R222, R224 to R246). The functions
on raw words come first, for every width and every float format; then the commands, one lemma for each family of
integer types; then the statements. -/

namespace Sys2Proof.Machine

open Sys2Proof

/-! ### From an integer -/

/-- The low bits of a word as a two's-complement integer (R224 to R228). -/
theorem sextLow_eq_bmod (w : Nat) (u : Word) : sextLow w u = Int.bmod u.toNat (2 ^ w) :=
  BitVec.toInt_setWidth u

/-- The low bits of a word as an unsigned integer (R229 to R233). -/
theorem zextLow_eq_mod (w : Nat) (u : Word) : zextLow w u = (u.toNat % 2 ^ w : Nat) :=
  congrArg Nat.cast (BitVec.toNat_setWidth w u)

theorem fixOfInt_eq_clampRaw (v : Int) : fixOfInt v = clampRaw (v * 2 ^ 32) := sat64_eq_clampRaw _

/-- An integer of at most 32 bits with its sign is a scalar without saturation (R4). -/
theorem fixOfInt_of_range {v : Int} (lo : -2 ^ 31 ≤ v) (hi : v < 2 ^ 31) : fixOfInt v = v * 2 ^ 32 := by
  rw [fixOfInt_eq_clampRaw, clampRaw_of_range (by omega) (by omega)]

/-- The signed integers of at most 32 bits never saturate (R224 to R226). -/
theorem fixOfInt_sextLow_of_le {w : Nat} (narrow : w ≤ 32) (u : Word) :
    fixOfInt (sextLow w u) = sextLow w u * 2 ^ 32 := by
  have width : (2 : Int) ^ w ≤ 2 ^ 32 := pow_le_pow_right₀ (by decide) narrow
  have lo : -(2 ^ w) ≤ 2 * sextLow w u := BitVec.le_two_mul_toInt
  have hi : 2 * sextLow w u < 2 ^ w := BitVec.two_mul_toInt_lt
  exact fixOfInt_of_range (by omega) (by omega)

/-- The unsigned integers of fewer than 32 bits never saturate (R229, R230). -/
theorem fixOfInt_zextLow_of_lt {w : Nat} (narrow : w < 32) (u : Word) :
    fixOfInt (zextLow w u) = zextLow w u * 2 ^ 32 := by
  have width : 2 ^ w ≤ 2 ^ 31 := Nat.pow_le_pow_right (by decide) (Nat.le_of_lt_succ narrow)
  have bound : u.toNat % 2 ^ w < 2 ^ w := Nat.mod_lt _ (by positivity)
  rw [zextLow_eq_mod]
  exact fixOfInt_of_range (by omega) (by omega)

/-! ### From a float image -/

/-- The shift of R222, to the left or to the right, is the exact product rounded down. -/
theorem truncMagnitude_eq_floor (sig : Nat) (exp : Int) :
    (truncMagnitude sig exp : Int) = ⌊(sig : Rat) * (2 : Rat) ^ (exp + 32)⌋ := by
  unfold truncMagnitude
  split
  next left =>
    obtain ⟨n, shift⟩ := Int.eq_ofNat_of_zero_le left
    rw [shift, Int.toNat_natCast, zpow_natCast]
    exact_mod_cast (Int.floor_natCast (R := Rat) (sig * 2 ^ n)).symm
  next right =>
    obtain ⟨n, shift⟩ := Int.eq_ofNat_of_zero_le (a := -(exp + 32)) (by omega)
    have scale : exp + 32 = -(n : Int) := by omega
    rw [shift, Int.toNat_natCast, scale, zpow_neg, zpow_natCast, ← div_eq_mul_inv]
    exact_mod_cast (Rat.floor_natCast_div_natCast sig (2 ^ n)).symm

/-- A finite image gives its magnitude in raw units, rounded down, with its sign and saturated (R222). -/
theorem floatToFix_finite (neg : Bool) (sig : Nat) (exp : Int) :
    floatToFix (.finite neg sig exp) =
      clampRaw ((if neg then -1 else 1) * ⌊(sig : Rat) * (2 : Rat) ^ (exp + 32)⌋) := by
  rw [← truncMagnitude_eq_floor, floatToFix, sat64_eq_clampRaw]
  cases neg
  · exact congrArg clampRaw (one_mul _).symm
  · exact congrArg clampRaw (neg_one_mul _).symm

/-- Decoding an image and bringing it to the scalar is the rule in rational arithmetic, in every format
(R221, R222). -/
theorem floatToFix_floatDecode (fmt : FloatFormat) (bits : Nat) :
    floatToFix (floatDecode fmt bits) = scalarOfImage fmt.expBits fmt.fracBits fmt.bias bits := by
  unfold floatDecode scalarOfImage
  dsimp only
  split
  next special =>
    split
    next infinity =>
      rw [if_neg (not_not.2 infinity)]
      by_cases sign : bits / 2 ^ (fmt.fracBits + fmt.expBits) % 2 = 1
      · rw [decide_eq_true sign, if_pos sign]
        rfl
      · rw [decide_eq_false sign, if_neg sign]
        rfl
    next nan => rfl
  next finite =>
    split
    next subnormal => simp only [floatToFix_finite, decide_eq_true_eq]
    next normal => simp only [floatToFix_finite, decide_eq_true_eq]

/-! ### To an integer -/

/-- The integral part of a scalar is a signed 32-bit integer (R4). -/
theorem tdiv_toInt_range (u : Word) :
    -2 ^ 31 ≤ Int.tdiv u.toInt (2 ^ 32) ∧ Int.tdiv u.toInt (2 ^ 32) < 2 ^ 31 := by
  have lo := BitVec.le_two_mul_toInt (x := u)
  have hi := BitVec.two_mul_toInt_lt (x := u)
  rw [Int.tdiv_eq_ediv]
  split
  next exactOrNonneg => omega
  next roundedUp =>
    rw [Int.sign_eq_one_of_pos (by decide)]
    omega

/-- A clamp to a range that is not empty may take its bounds in either order (R236). -/
theorem intOfFix_eq_max_min {lo hi : Int} (range : lo ≤ hi) (a : Int) :
    intOfFix lo hi a = max lo (min (Int.tdiv a (2 ^ 32)) hi) := by
  unfold intOfFix truncDiv
  omega

theorem signedOfFix_eq_max_min (w : Nat) (a : Int) :
    signedOfFix w a = max (-2 ^ (w - 1)) (min (Int.tdiv a (2 ^ 32)) (2 ^ (w - 1) - 1)) := by
  have pos : (0 : Int) < 2 ^ (w - 1) := by positivity
  exact intOfFix_eq_max_min (by omega) a

theorem unsignedOfFix_eq_max_min (w : Nat) (a : Int) :
    unsignedOfFix w a = max 0 (min (Int.tdiv a (2 ^ 32)) (2 ^ w - 1)) := by
  have pos : (0 : Int) < 2 ^ w := by positivity
  exact intOfFix_eq_max_min (by omega) a

/-- The signed integers of 32 bits or more hold every integral part (R239 to R241). -/
theorem signedOfFix_toInt_of_le {w : Nat} (wide : 32 ≤ w) (u : Word) :
    signedOfFix w u.toInt = Int.tdiv u.toInt (2 ^ 32) := by
  have width : (2 : Int) ^ 31 ≤ 2 ^ (w - 1) := pow_le_pow_right₀ (by decide) (by omega)
  obtain ⟨lo, hi⟩ := tdiv_toInt_range u
  rw [signedOfFix_eq_max_min, min_eq_left (by omega), max_eq_right (by omega)]

/-- The unsigned integers of 32 bits or more hold every integral part that is not negative (R244 to R246). -/
theorem unsignedOfFix_toInt_of_le {w : Nat} (wide : 32 ≤ w) (u : Word) :
    unsignedOfFix w u.toInt = max 0 (Int.tdiv u.toInt (2 ^ 32)) := by
  have width : (2 : Int) ^ 31 ≤ 2 ^ w := pow_le_pow_right₀ (by decide) (by omega)
  obtain ⟨lo, hi⟩ := tdiv_toInt_range u
  rw [unsignedOfFix_eq_max_min, min_eq_left (by omega)]

/-! ### The commands on the registers -/

/-- `CVTF` of the signed types, with their widths (R224 to R228). -/
def cvtfSigned : List (Instr × Nat) :=
  [(.cvtfI8, 8), (.cvtfI16, 16), (.cvtfI32, 32), (.cvtfI64, 64), (.cvtfIsize, 64)]

/-- `CVTF` of the unsigned types, with their widths (R229 to R233). -/
def cvtfUnsigned : List (Instr × Nat) :=
  [(.cvtfU8, 8), (.cvtfU16, 16), (.cvtfU32, 32), (.cvtfU64, 64), (.cvtfUsize, 64)]

/-- `CVTT` to the signed types, with their widths (R237 to R241). -/
def cvttSigned : List (Instr × Nat) :=
  [(.cvttI8, 8), (.cvttI16, 16), (.cvttI32, 32), (.cvttI64, 64), (.cvttIsize, 64)]

/-- `CVTT` to the unsigned types, with their widths (R242 to R246). -/
def cvttUnsigned : List (Instr × Nat) :=
  [(.cvttU8, 8), (.cvttU16, 16), (.cvttU32, 32), (.cvttU64, 64), (.cvttUsize, 64)]

section

variable {s : State} (latch : s.LatchAgrees)
include latch

/-- A value of the first operand's word is a value of `A` (R100, R305). -/
theorem completeValue_of_latchAgrees_word (f : Word → Int) :
    s.completeValue (f s.wordA) = s.afterValue (f s.a) := by
  rw [completeValue_eq_afterValue, wordA_of_latchAgrees s latch]

theorem exec_of_mem_cvtfSigned {i : Instr} {w : Nat} (mem : (i, w) ∈ cvtfSigned) :
    exec i s = .next (s.afterValue (fixOfInt (sextLow w s.a))) := by
  rw [← completeValue_of_latchAgrees_word latch fun a => fixOfInt (sextLow w a)]
  unfold cvtfSigned at mem
  fin_cases mem <;> rfl

theorem exec_of_mem_cvtfUnsigned {i : Instr} {w : Nat} (mem : (i, w) ∈ cvtfUnsigned) :
    exec i s = .next (s.afterValue (fixOfInt (zextLow w s.a))) := by
  rw [← completeValue_of_latchAgrees_word latch fun a => fixOfInt (zextLow w a)]
  unfold cvtfUnsigned at mem
  fin_cases mem <;> rfl

theorem exec_of_mem_cvttSigned {i : Instr} {w : Nat} (mem : (i, w) ∈ cvttSigned) :
    exec i s = .next (s.afterValue (signedOfFix w s.a.toInt)) := by
  rw [← completeValue_of_latchAgrees_unary latch (signedOfFix w)]
  unfold cvttSigned at mem
  fin_cases mem <;> rfl

theorem exec_of_mem_cvttUnsigned {i : Instr} {w : Nat} (mem : (i, w) ∈ cvttUnsigned) :
    exec i s = .next (s.afterValue (unsignedOfFix w s.a.toInt)) := by
  rw [← completeValue_of_latchAgrees_unary latch (unsignedOfFix w)]
  unfold cvttUnsigned at mem
  fin_cases mem <;> rfl

/-- The image is the low half of `A` (R234). -/
theorem exec_cvtfF32 :
    exec .cvtfF32 s =
      .next (s.afterValue (floatToFix (floatDecode binary32 (s.a.toNat % 2 ^ 32)))) := by
  rw [← BitVec.toNat_setWidth]
  exact congrArg _ (completeValue_of_latchAgrees_word latch fun a =>
    floatToFix (floatDecode binary32 (a.setWidth 32).toNat))

theorem exec_cvtfF64 :
    exec .cvtfF64 s = .next (s.afterValue (floatToFix (floatDecode binary64 s.a.toNat))) :=
  congrArg _ (completeValue_of_latchAgrees_word latch fun a => floatToFix (floatDecode binary64 a.toNat))

theorem exec_cvtfSigned {i : Instr} {w : Nat} (mem : (i, w) ∈ cvtfSigned) :
    exec i s = .next (s.afterValue (clampRaw (Int.bmod s.a.toNat (2 ^ w) * 2 ^ 32))) := by
  rw [exec_of_mem_cvtfSigned latch mem, fixOfInt_eq_clampRaw, sextLow_eq_bmod]

theorem exec_cvtfSigned_of_le {i : Instr} {w : Nat} (mem : (i, w) ∈ cvtfSigned) (narrow : w ≤ 32) :
    exec i s = .next (s.afterValue (Int.bmod s.a.toNat (2 ^ w) * 2 ^ 32)) := by
  rw [exec_of_mem_cvtfSigned latch mem, fixOfInt_sextLow_of_le narrow, sextLow_eq_bmod]

theorem exec_cvtfUnsigned {i : Instr} {w : Nat} (mem : (i, w) ∈ cvtfUnsigned) :
    exec i s = .next (s.afterValue (clampRaw ((s.a.toNat % 2 ^ w : Nat) * 2 ^ 32))) := by
  rw [exec_of_mem_cvtfUnsigned latch mem, fixOfInt_eq_clampRaw, zextLow_eq_mod]

theorem exec_cvtfUnsigned_of_lt {i : Instr} {w : Nat} (mem : (i, w) ∈ cvtfUnsigned) (narrow : w < 32) :
    exec i s = .next (s.afterValue ((s.a.toNat % 2 ^ w : Nat) * 2 ^ 32)) := by
  rw [exec_of_mem_cvtfUnsigned latch mem, fixOfInt_zextLow_of_lt narrow, zextLow_eq_mod]

/-- A 64-bit source is the whole of `A` (R232, R233). -/
theorem exec_cvtfUnsigned_word {i : Instr} (mem : (i, 64) ∈ cvtfUnsigned) :
    exec i s = .next (s.afterValue (clampRaw (s.a.toNat * 2 ^ 32))) := by
  rw [exec_cvtfUnsigned latch mem, Nat.mod_eq_of_lt s.a.isLt]

theorem exec_cvttSigned {i : Instr} {w : Nat} (mem : (i, w) ∈ cvttSigned) :
    exec i s = .next (s.afterValue
      (max (-2 ^ (w - 1)) (min (Int.tdiv s.a.toInt (2 ^ 32)) (2 ^ (w - 1) - 1)))) := by
  rw [exec_of_mem_cvttSigned latch mem, signedOfFix_eq_max_min]

theorem exec_cvttSigned_of_le {i : Instr} {w : Nat} (mem : (i, w) ∈ cvttSigned) (wide : 32 ≤ w) :
    exec i s = .next (s.afterValue (Int.tdiv s.a.toInt (2 ^ 32))) := by
  rw [exec_of_mem_cvttSigned latch mem, signedOfFix_toInt_of_le wide]

theorem exec_cvttUnsigned {i : Instr} {w : Nat} (mem : (i, w) ∈ cvttUnsigned) :
    exec i s = .next (s.afterValue (max 0 (min (Int.tdiv s.a.toInt (2 ^ 32)) (2 ^ w - 1)))) := by
  rw [exec_of_mem_cvttUnsigned latch mem, unsignedOfFix_eq_max_min]

theorem exec_cvttUnsigned_of_le {i : Instr} {w : Nat} (mem : (i, w) ∈ cvttUnsigned) (wide : 32 ≤ w) :
    exec i s = .next (s.afterValue (max 0 (Int.tdiv s.a.toInt (2 ^ 32)))) := by
  rw [exec_of_mem_cvttUnsigned latch mem, unsignedOfFix_toInt_of_le wide]

end

/-! ### The statements -/

/-- Settles O48: each command completes with the decoded image brought to the scalar, which is the rule in
rational arithmetic in every format. -/
theorem convertFromFloats : Obligations.ConvertFromFloats := by
  refine ⟨rfl, rfl, fun s latch => ⟨?_, ?_⟩⟩
  · rw [exec_cvtfF32 latch, floatToFix_floatDecode]
    rfl
  · rw [exec_cvtfF64 latch, floatToFix_floatDecode]
    rfl

/-- Settles O47: the low bits of `A` are scaled and saturated, and only the 64-bit types and `U32` can leave
the range. -/
theorem convertFromIntegers : Obligations.ConvertFromIntegers :=
  ⟨rfl, fun _ latch =>
    ⟨exec_cvtfSigned_of_le latch (w := 8) (by decide) (by decide),
      exec_cvtfSigned_of_le latch (w := 16) (by decide) (by decide),
      exec_cvtfSigned_of_le latch (w := 32) (by decide) (by decide),
      exec_cvtfSigned latch (w := 64) (by decide),
      exec_cvtfSigned latch (w := 64) (by decide),
      exec_cvtfUnsigned_of_lt latch (w := 8) (by decide) (by decide),
      exec_cvtfUnsigned_of_lt latch (w := 16) (by decide) (by decide),
      exec_cvtfUnsigned latch (w := 32) (by decide),
      exec_cvtfUnsigned_word latch (by decide),
      exec_cvtfUnsigned_word latch (by decide)⟩⟩

/-- Settles O49: the integral part of `A` is clamped to the type's range, which is wider than that of the
integral parts from 32 bits on, but for the sign. -/
theorem convertToIntegers : Obligations.ConvertToIntegers := by
  refine ⟨rfl, ?_⟩
  rintro s n latch rfl
  exact ⟨exec_cvttSigned latch (w := 8) (by decide),
    exec_cvttSigned latch (w := 16) (by decide),
    exec_cvttSigned_of_le latch (w := 32) (by decide) (by decide),
    exec_cvttSigned_of_le latch (w := 64) (by decide) (by decide),
    exec_cvttSigned_of_le latch (w := 64) (by decide) (by decide),
    exec_cvttUnsigned latch (w := 8) (by decide),
    exec_cvttUnsigned latch (w := 16) (by decide),
    exec_cvttUnsigned_of_le latch (w := 32) (by decide) (by decide),
    exec_cvttUnsigned_of_le latch (w := 64) (by decide) (by decide),
    exec_cvttUnsigned_of_le latch (w := 64) (by decide) (by decide)⟩

end Sys2Proof.Machine
end

section
/-! The constant ROM (44_constants.md R260, R261). The lemmas are over the selector table that the decoder reads:
the command of the selector `k` has the word of `k`, and executing it loads the entry `k`. -/

namespace Sys2Proof.Machine

open Sys2Proof

/-- The command of the constant `k` is encoded as the opcode 0x70 with the selector `k` (R260). -/
theorem encode_of_ldcCommand {k : Nat} {i : Instr} (entry : ldcCommand k = some i) :
    encode i = BitVec.ofNat 64 (0x70 + 256 * k) := by
  unfold ldcCommand at entry
  split at entry <;> cases entry <;> rfl

theorem exec_eq_loadConst_of_ldcCommand {k : Nat} {i : Instr} (entry : ldcCommand k = some i) (s : State) :
    exec i s = loadConst k s := by
  unfold ldcCommand at entry
  split at entry <;> cases entry <;> rfl

/-- The command of the constant `k` completes with the ROM's entry `k`, whatever the state (R100, R260). -/
theorem exec_of_ldcCommand {k : Nat} {i : Instr} (entry : ldcCommand k = some i) (s : State) :
    exec i s = .next (s.afterValue (constRom k)) := by
  rw [exec_eq_loadConst_of_ldcCommand entry, loadConst, completeValue_eq_afterValue]

/-- Settles O54: each listed row is a row of the selector table whose word is the ROM's entry, and the rest
holds of every row of that table. -/
theorem loadConstants : Obligations.LoadConstants := by
  intro p listed
  have row : ldcCommand p.2.1 = some p.1 ∧ BitVec.ofInt 64 (constRom p.2.1) = p.2.2 := by
    revert p
    decide
  obtain ⟨entry, word⟩ := row
  refine ⟨encode_of_ldcCommand entry, fun s => ?_⟩
  rw [exec_of_ldcCommand entry, State.afterValue, word]

end Sys2Proof.Machine
end

section
/-! Decoding and encoding (30_encoding.md R70 to R77; 20_memory.md R54): the fields and the word are two forms of
the same bits, the decoder's tables are the encoder's fields read backwards, and the tables have a row exactly
where R74 and R75 list one. -/

namespace Sys2Proof.Machine

open Sys2Proof

/-! ### Words and fields -/

/-- Taking a word apart and joining its fields again gives it back (R70). -/
theorem wordOfCommand_commandOfWord (w : Word) : wordOfCommand (commandOfWord w) = w := by
  apply BitVec.eq_of_getLsbD_eq
  intro k bound
  simp only [wordOfCommand, commandOfWord, BitVec.getLsbD_append, BitVec.getLsbD_extractLsb']
  split
  next op => simp [op]
  next notOp =>
    split
    next sel => simp [sel, show 8 + (k - 8) = k by omega]
    next rsv => simp [show k - 8 - 8 < 48 by omega, show 16 + (k - 8 - 8) = k by omega]

/-- The fields of the word that joins them (R70). -/
theorem commandOfWord_wordOfCommand (c : Command) : commandOfWord (wordOfCommand c) = c := by
  obtain ⟨op, sel, rsv⟩ := c
  simp only [commandOfWord, wordOfCommand, Command.mk.injEq]
  refine ⟨?_, ?_, ?_⟩ <;> apply BitVec.eq_of_getLsbD_eq <;> intro k bound <;>
    simp only [BitVec.getLsbD_extractLsb', BitVec.getLsbD_append, bound, decide_true, Bool.true_and]
  · rw [if_pos (by omega), Nat.zero_add]
  · rw [if_neg (by omega), if_pos (by omega), Nat.add_sub_cancel_left]
  · rw [if_neg (by omega), if_neg (by omega)]
    exact congrArg _ (by omega)

/-- The fields of a command's word are the encoder's (R77). -/
theorem commandOfWord_encode (i : Instr) : commandOfWord (encode i) = instrFields i :=
  commandOfWord_wordOfCommand _

/-! ### The decoder's tables are the encoder's fields -/

theorem instrFields_of_cvtfCommand {k : Nat} {i : Instr} (row : cvtfCommand k = some i) :
    instrFields i = ⟨0x60#8, BitVec.ofNat 8 k, 0#48⟩ := by
  unfold cvtfCommand at row
  split at row <;> cases row <;> rfl

theorem instrFields_of_cvttCommand {k : Nat} {i : Instr} (row : cvttCommand k = some i) :
    instrFields i = ⟨0x61#8, BitVec.ofNat 8 k, 0#48⟩ := by
  unfold cvttCommand at row
  split at row <;> cases row <;> rfl

theorem instrFields_of_ldcCommand {k : Nat} {i : Instr} (row : ldcCommand k = some i) :
    instrFields i = ⟨0x70#8, BitVec.ofNat 8 k, 0#48⟩ := by
  unfold ldcCommand at row
  split at row <;> cases row <;> rfl

theorem instrFields_of_plainCommand {n : Nat} {i : Instr} (row : plainCommand n = some i) :
    instrFields i = ⟨BitVec.ofNat 8 n, 0#8, 0#48⟩ := by
  unfold plainCommand at row
  split at row <;> cases row <;> rfl

/-- Fields that decode are those that the encoder gives the command: the four kinds of R75 in its order, each
by its table. -/
theorem eq_instrFields_of_decodeCommand {c : Command} {i : Instr} (decodes : decodeCommand c = .ok i) :
    c = instrFields i := by
  obtain ⟨op, sel, rsv⟩ := c
  unfold decodeCommand at decodes
  split at decodes
  next => cases decodes
  next reserved =>
    have rsv_zero : rsv = 0#48 := not_not.1 reserved
    split at decodes
    next cvtf =>
      split at decodes <;> cases decodes
      next row => rw [instrFields_of_cvtfCommand row, rsv_zero, ← cvtf, BitVec.ofNat_toNat, BitVec.setWidth_eq]
    next =>
      split at decodes
      next cvtt =>
        split at decodes <;> cases decodes
        next row => rw [instrFields_of_cvttCommand row, rsv_zero, ← cvtt, BitVec.ofNat_toNat, BitVec.setWidth_eq]
      next =>
        split at decodes
        next ldc =>
          split at decodes <;> cases decodes
          next row => rw [instrFields_of_ldcCommand row, rsv_zero, ← ldc, BitVec.ofNat_toNat, BitVec.setWidth_eq]
        next =>
          split at decodes
          next row =>
            split at decodes <;> cases decodes
            next sel_zero =>
              rw [instrFields_of_plainCommand row, rsv_zero, ← sel_zero, BitVec.ofNat_toNat, BitVec.setWidth_eq]
          next => cases decodes

/-- The encoder's fields decode to the command they were made of: each row of the opcode map is read back. -/
theorem decodeCommand_instrFields (i : Instr) : decodeCommand (instrFields i) = .ok i := by
  cases i <;> rfl

theorem decodeWord_encode (i : Instr) : decodeWord (encode i) = .ok i := by
  rw [decodeWord, commandOfWord_encode, decodeCommand_instrFields]

/-- Settles O1: fields that decode are the encoder's, so the word joined from them is the encoding; and the
encoding's fields decode to the command. -/
theorem decodeIsInverseOfEncode : Obligations.DecodeIsInverseOfEncode := by
  intro w i
  constructor
  · intro decodes
    rw [encode, ← eq_instrFields_of_decodeCommand decodes, wordOfCommand_commandOfWord]
  · rintro rfl
    exact decodeWord_encode i

/-! ### The legal words -/

/-- The encoder's fields lie in the ranges of R74 and R75. -/
theorem instrFields_wellFormed (i : Instr) : (instrFields i).wellFormed = true := by
  cases i <;> rfl

theorem cvtfCommand_isSome {k : Nat} (range : k ≤ 11) : (cvtfCommand k).isSome := by
  interval_cases k <;> rfl

theorem cvttCommand_isSome {k : Nat} (range : k ≤ 11) : (cvttCommand k).isSome := by
  interval_cases k <;> rfl

theorem ldcCommand_isSome {k : Nat} (range : k ≤ 19) : (ldcCommand k).isSome := by
  interval_cases k <;> rfl

/-- The opcodes that R74 does not reserve, as four ranges. -/
theorem opcode_range_of_opOk {c : Command} (mapped : c.opOk = true) :
    c.op.toNat ≤ 0x0C ∨ (0x10 ≤ c.op.toNat ∧ c.op.toNat ≤ 0x20) ∨
      (0x30 ≤ c.op.toNat ∧ c.op.toNat ≤ 0x40) ∨ (0x50 ≤ c.op.toNat ∧ c.op.toNat ≤ 0x52) ∨
      c.op.toNat = 0x60 ∨ c.op.toNat = 0x61 ∨ c.op.toNat = 0x70 := by
  have bound := c.op.isLt
  simp only [Command.opOk, Bool.not_eq_true', Bool.or_eq_false_iff, Bool.and_eq_false_iff,
    decide_eq_false_iff_not] at mapped
  omega

/-- Every opcode that R74 does not reserve and that takes no selector has its row. -/
theorem plainCommand_isSome {c : Command} (mapped : c.opOk = true) (cvtf : c.op ≠ 0x60#8)
    (cvtt : c.op ≠ 0x61#8) (ldc : c.op ≠ 0x70#8) : (plainCommand c.op.toNat).isSome := by
  rw [BitVec.toNat_ne] at cvtf cvtt ldc
  have ranges := opcode_range_of_opOk mapped
  generalize c.op.toNat = n at *
  rcases ranges with arith | ⟨_, _⟩ | ⟨_, _⟩ | ⟨_, _⟩ | selector | selector | selector
  case inr.inr.inr.inr.inl => exact absurd selector cvtf
  case inr.inr.inr.inr.inr.inl => exact absurd selector cvtt
  case inr.inr.inr.inr.inr.inr => exact absurd selector ldc
  all_goals interval_cases n <;> rfl

/-- Well-formed fields decode: the test that R75 makes of each finds a row. -/
theorem decodeCommand_of_wellFormed {c : Command} (legal : c.wellFormed = true) :
    ∃ i, decodeCommand c = .ok i := by
  simp only [Command.wellFormed, Bool.and_eq_true] at legal
  obtain ⟨⟨reserved, mapped⟩, selector⟩ := legal
  have rsv_zero : c.rsv = 0#48 := of_decide_eq_true reserved
  unfold Command.selOk at selector
  unfold decodeCommand
  rw [if_neg (not_not.2 rsv_zero)]
  by_cases cvtf : c.op = 0x60#8
  · rw [if_pos (.inl cvtf)] at selector
    obtain ⟨i, row⟩ := Option.isSome_iff_exists.1 (cvtfCommand_isSome (of_decide_eq_true selector))
    exact ⟨i, by rw [if_pos cvtf, row]⟩
  rw [if_neg cvtf]
  by_cases cvtt : c.op = 0x61#8
  · rw [if_pos (.inr cvtt)] at selector
    obtain ⟨i, row⟩ := Option.isSome_iff_exists.1 (cvttCommand_isSome (of_decide_eq_true selector))
    exact ⟨i, by rw [if_pos cvtt, row]⟩
  rw [if_neg cvtt]
  rw [if_neg (not_or.2 ⟨cvtf, cvtt⟩)] at selector
  by_cases ldc : c.op = 0x70#8
  · rw [if_pos ldc] at selector
    obtain ⟨i, row⟩ := Option.isSome_iff_exists.1 (ldcCommand_isSome (of_decide_eq_true selector))
    exact ⟨i, by rw [if_pos ldc, row]⟩
  rw [if_neg ldc] at selector ⊢
  obtain ⟨i, row⟩ := Option.isSome_iff_exists.1 (plainCommand_isSome mapped cvtf cvtt ldc)
  have sel_zero : c.sel = 0#8 := BitVec.eq_of_toNat_eq (of_decide_eq_true selector)
  exact ⟨i, by rw [row]; exact if_pos sel_zero⟩

/-- Settles O2: the word of a command has the encoder's fields, which are well-formed; and well-formed fields
have a row. -/
theorem legalWordsAreTheWellFormedOnes : Obligations.LegalWordsAreTheWellFormedOnes := by
  intro w
  constructor
  · rintro ⟨i, decodes⟩
    rw [eq_instrFields_of_decodeCommand decodes]
    exact instrFields_wellFormed i
  · exact decodeCommand_of_wellFormed

/-- Words whose fields are not well-formed are rejected. -/
theorem decodeWord_eq_error_iff (w : Word) :
    (∃ e, decodeWord w = .error e) ↔ (commandOfWord w).wellFormed = false := by
  rw [← Bool.not_eq_true, ← legalWordsAreTheWellFormedOnes w]
  cases decodeWord w <;> simp

/-- Settles O3: each word is taken apart and looked up. -/
theorem writtenWordsDecode : Obligations.WrittenWordsDecode :=
  ⟨rfl, rfl, rfl, rfl, rfl, rfl, rfl, rfl, rfl, rfl, rfl, rfl, rfl, rfl, rfl⟩

/-! ### The byte layout -/

/-- Bytes after the first ones stand above them (R54). -/
theorem natOfBytes_append (xs ys : List Byte) :
    natOfBytes (xs ++ ys) = natOfBytes xs + 256 ^ xs.length * natOfBytes ys := by
  induction xs with
  | nil => simp [natOfBytes]
  | cons x xs ih =>
    simp only [List.cons_append, natOfBytes, ih, List.length_cons, pow_succ]
    ring

/-- The first `n` bytes of a word are its value modulo `256^n` (R54). -/
theorem natOfBytes_range_map (w : Word) (n : Nat) :
    natOfBytes ((List.range n).map (byteOfWord w)) = w.toNat % 256 ^ n := by
  induction n with
  | zero => simp [natOfBytes, Nat.mod_one]
  | succ n ih =>
    have byte : (byteOfWord w n).toNat = w.toNat / 256 ^ n % 256 := by
      rw [byteOfWord, BitVec.extractLsb'_toNat, Nat.shiftRight_eq_div_pow, pow_mul]
      rfl
    rw [List.range_succ, List.map_append, natOfBytes_append, ih, List.length_map, List.length_range,
      List.map_singleton, natOfBytes, natOfBytes, byte, mul_zero, add_zero, pow_succ, Nat.mod_mul]

@[simp] theorem bytesOfWord_length (w : Word) : (bytesOfWord w).length = 8 := by
  simp [bytesOfWord]

theorem natOfBytes_bytesOfWord (w : Word) : natOfBytes (bytesOfWord w) = w.toNat := by
  rw [bytesOfWord, natOfBytes_range_map]
  exact Nat.mod_eq_of_lt w.isLt

/-- A word laid out in bytes decodes as the word does, with the bytes after it left over (R54). -/
theorem decodeBytes_bytesOfWord_append {w : Word} {i : Instr} (decodes : decodeWord w = .ok i)
    (rest : List Byte) : decodeBytes (bytesOfWord w ++ rest) = .ok (i, rest) := by
  have enough : ¬ (bytesOfWord w ++ rest).length < 8 := by simp
  rw [decodeBytes, if_neg enough, List.take_left' (bytesOfWord_length w),
    List.drop_left' (bytesOfWord_length w), natOfBytes_bytesOfWord, BitVec.ofNat_toNat,
    BitVec.setWidth_eq, decodes]

theorem tableWord_toNat (w : Word) : tableWord 64 w.toNat = w := by
  rw [tableWord, Nat.mod_eq_of_lt w.isLt, BitVec.ofNat_toNat, BitVec.setWidth_eq]

/-- Settles O4: the eight bytes hold the word's value, and the host's table view is the case with no bytes
after them. -/
theorem byteLayoutKeepsTheCommand : Obligations.ByteLayoutKeepsTheCommand := by
  intro w i rest decodes
  refine ⟨decodeBytes_bytesOfWord_append decodes rest, ?_⟩
  have alone : decodeBytes (bytesOfWord w) = .ok (i, []) := by
    simpa using decodeBytes_bytesOfWord_append decodes []
  rw [decodeTableWord, tableWord_toNat, alone]

end Sys2Proof.Machine
end

section
/-! What the integer functions of the commands satisfy: division (40_arith.md R107, R115), the argument reduction
(41_evaluator.md R162), the vectoring function on its axis (R170) and the comparator's distance and relative
tier (42_compare.md R200, R203); then the commands whose operands may be exchanged (R115, R205). -/

namespace Sys2Proof.Machine

open Sys2Proof

/-! ### Division and argument reduction -/

/-- The truncated remainder is not of the other sign than the dividend (R107). -/
theorem mul_tmod_nonneg (a b : Int) : 0 ≤ a * Int.tmod a b := by
  rcases le_total 0 a with nonneg | nonpos
  · exact mul_nonneg nonneg (Int.tmod_nonneg b nonneg)
  · have magnitude : 0 ≤ -a * Int.tmod (-a) b := mul_nonneg (by omega) (Int.tmod_nonneg b (by omega))
    rwa [Int.neg_tmod, neg_mul_neg] at magnitude

/-- The truncated remainder is smaller than the divisor (R107). -/
theorem abs_tmod_lt_abs (a : Int) {b : Int} (nonzero : b ≠ 0) : |Int.tmod a b| < |b| := by
  rw [Int.abs_eq_natAbs, Int.abs_eq_natAbs, Int.natAbs_tmod]
  exact_mod_cast Nat.mod_lt _ (Int.natAbs_pos.2 nonzero)

/-- Settles O24, by the division that truncates. -/
theorem quotientAndRemainderRecompose : Obligations.QuotientAndRemainderRecompose := by
  intro a b nonzero
  rw [remRaw_of_ne_zero a nonzero, truncDiv]
  exact ⟨(Int.tdiv_mul_add_tmod a b).symm, abs_tmod_lt_abs a nonzero, mul_tmod_nonneg a b⟩

/-- Settles O35: the reduced angle is what the floored quotient of R162 leaves, shifted by `FRAC_PI_2`. -/
theorem argumentReductionRange : Obligations.ArgumentReductionRange := by
  intro a
  rw [reduceAngle, reduceQuotient_eq_ediv, piRaw]
  omega

/-! ### The vectoring function on the horizontal axis -/

/-- On the axis no iteration rotates (R170). -/
theorem foldl_vectorIteration_of_axis (entries : List (Nat × Int)) {c : Cordic} (axis : c.y = 0) :
    entries.foldl vectorIteration c = c := by
  induction entries with
  | nil => rfl
  | cons e rest ih =>
    have still : vectorIteration c e = c := by simp [vectorIteration, axis]
    rw [List.foldl_cons, still, ih]

/-- Settles O39: the loop leaves the starting angle as it is, which is 0 or `PI`. -/
theorem vectoringIsExactOnTheAxis : Obligations.VectoringIsExactOnTheAxis := by
  intro x
  have axis : (vectorStart 0 x).y = 0 := by
    unfold vectorStart
    split <;> rfl
  rw [atan2F, foldl_vectorIteration_of_axis _ axis, vectorStart]
  constructor
  · intro nonneg
    rw [if_neg (not_lt.2 nonneg), ite_self]
  · intro neg
    rw [if_pos neg, if_neg (fun origin => neg.ne origin.1)]
    rfl

/-! ### The comparator -/

theorem rawDistance_comm (a b : Int) : rawDistance a b = rawDistance b a := by
  rw [rawDistance, rawDistance, abs_sub_comm]

/-- Settles O42: the distance held at `MAX` is symmetric because the exact one is. -/
theorem absDiffIsTheClampedDistance : Obligations.AbsDiffIsTheClampedDistance := by
  intro a b
  rw [absDiff_eq_rawDistance, absDiff_eq_rawDistance]
  exact ⟨rfl, rawDistance_comm a b, le_min (abs_nonneg _) (by decide), min_le_right _ _⟩

/-- The relative tier (R203): its two tests are one disjunction. -/
theorem equalRelative_eq_decide (a b eps maxrel : Int) :
    equalRelative a b eps maxrel =
      decide (rawDistance a b ≤ eps ∨
        rawDistance a b ≤ clampRaw (max (clampRaw |a|) (clampRaw |b|) * maxrel / 2 ^ 32)) := by
  rw [equalRelative, absDiff_eq_rawDistance, absRaw_eq_clampRaw, absRaw_eq_clampRaw,
    mulRaw_eq_clampRaw]
  split
  next within => rw [decide_eq_true (Or.inl within)]
  next beyond => rw [decide_eq_decide, or_iff_right beyond]

theorem exec_aeqrel {s : State} (latch : s.LatchAgrees) :
    exec .aeqrel s = .next (s.afterPredicate
      (equalRelative s.a.toInt s.b.toInt s.eps.toInt s.maxrel.toInt)) := by
  rw [← completePredicate_eq_afterPredicate, ← opA_of_latchAgrees s latch,
    ← opB_of_latchAgrees s latch, ← opEps_of_latchAgrees s latch, ← opMaxrel_of_latchAgrees s latch]
  rfl

/-- Settles O44: the command completes with the relative tier of the registers. -/
theorem relativeTier : Obligations.RelativeTier := by
  refine ⟨rfl, fun s latch => ?_⟩
  rw [exec_aeqrel latch, equalRelative_eq_decide]

/-! ### Exchanging the operands -/

theorem addRaw_comm (a b : Int) : addRaw a b = addRaw b a := by rw [addRaw, addRaw, add_comm]

theorem mulRaw_comm (a b : Int) : mulRaw a b = mulRaw b a := by rw [mulRaw, mulRaw, mul_comm]

theorem equalAbsolute_comm (a b eps : Int) : equalAbsolute a b eps = equalAbsolute b a eps := by
  rw [equalAbsolute_eq_decide, equalAbsolute_eq_decide, rawDistance_comm]

theorem equalRelative_comm (a b eps maxrel : Int) :
    equalRelative a b eps maxrel = equalRelative b a eps maxrel := by
  rw [equalRelative_eq_decide, equalRelative_eq_decide, rawDistance_comm, max_comm]

theorem equalUlp_toInt_comm (a b : Word) (eps maxulp : Int) :
    equalUlp a.toInt b.toInt eps maxulp = equalUlp b.toInt a.toInt eps maxulp := by
  rw [equalUlp_toInt_eq_decide, equalUlp_toInt_eq_decide, rawDistance_comm, abs_sub_comm,
    decide_eq_decide, eq_comm (a := a.msb)]

/-- The state with the operands exchanged. -/
def State.exchanged (s : State) : State := { s with a := s.b, b := s.a }

/-- A value command with the same result on exchanged operands changes no result. -/
theorem exchange_of_afterValue {i : Instr} {s : State} {v : Int}
    (run : exec i s = .next (s.afterValue v))
    (exchange : exec i s.exchanged = .next (s.exchanged.afterValue v)) :
    ∃ t u, exec i s = .next t ∧ exec i s.exchanged = .next u ∧
      u.r = t.r ∧ u.flagT = t.flagT ∧ u.flagV = t.flagV :=
  ⟨_, _, run, exchange, rfl, rfl, rfl⟩

/-- A predicate with the same truth value on exchanged operands changes no result. -/
theorem exchange_of_afterPredicate {i : Instr} {s : State} {p : Bool}
    (run : exec i s = .next (s.afterPredicate p))
    (exchange : exec i s.exchanged = .next (s.exchanged.afterPredicate p)) :
    ∃ t u, exec i s = .next t ∧ exec i s.exchanged = .next u ∧
      u.r = t.r ∧ u.flagT = t.flagT ∧ u.flagV = t.flagV :=
  ⟨_, _, run, exchange, rfl, rfl, rfl⟩

/-- Settles O46: each command's function of the registers is symmetric. -/
theorem symmetricCommands : Obligations.SymmetricCommands := by
  intro i symmetric s idle
  have latch : s.LatchAgrees := .inl idle
  have latch' : s.exchanged.LatchAgrees := .inl idle
  simp only [List.mem_cons, List.not_mem_nil, or_false] at symmetric
  rcases symmetric with rfl | rfl | rfl | rfl | rfl | rfl | rfl
  case inl =>
    refine exchange_of_afterValue (exec_add latch) ?_
    rw [exec_add latch', addRaw_comm]
    rfl
  case inr.inl =>
    refine exchange_of_afterValue (exec_mul latch) ?_
    rw [exec_mul latch', mulRaw_comm]
    rfl
  case inr.inr.inl =>
    refine exchange_of_afterPredicate (exec_cmpeq latch) ?_
    rw [exec_cmpeq latch', decide_eq_decide.2 eq_comm]
    rfl
  case inr.inr.inr.inl =>
    refine exchange_of_afterPredicate (exec_cmpne latch) ?_
    rw [exec_cmpne latch', decide_eq_decide.2 ne_comm]
    rfl
  case inr.inr.inr.inr.inl =>
    refine exchange_of_afterPredicate (exec_aeqabs latch) ?_
    rw [exec_aeqabs latch', equalAbsolute_comm]
    rfl
  case inr.inr.inr.inr.inr.inl =>
    refine exchange_of_afterPredicate (exec_aeqrel latch) ?_
    rw [exec_aeqrel latch', equalRelative_comm]
    rfl
  case inr.inr.inr.inr.inr.inr =>
    refine exchange_of_afterPredicate (exec_aequlp latch) ?_
    rw [exec_aequlp latch', equalUlp_toInt_comm]
    rfl

end Sys2Proof.Machine
end

section
/-! What every command leaves unchanged (10_state.md sections 3 to 5) and what its results depend on (00_scope.md
R7). One relation says both: how a command acts on two states with the same operands and parameters; the frame
is the case of one state. -/

namespace Sys2Proof.Machine

open Sys2Proof

/-- The two states agree on what a command reads: the operands and the parameters, as latched (R7, R39). -/
structure SameOperands (s s' : State) : Prop where
  a : s.operands.a = s'.operands.a
  b : s.operands.b = s'.operands.b
  eps : s.operands.eps = s'.operands.eps
  maxrel : s.operands.maxrel = s'.operands.maxrel
  maxulp : s.operands.maxulp = s'.operands.maxulp

theorem SameOperands.refl (s : State) : SameOperands s s := ⟨rfl, rfl, rfl, rfl, rfl⟩

namespace SameOperands

variable {s s' : State} (same : SameOperands s s')
include same

theorem wordA : s'.wordA = s.wordA := same.a.symm

theorem wordB : s'.wordB = s.wordB := same.b.symm

theorem opA : s'.opA = s.opA := congrArg s64 same.wordA

theorem opB : s'.opB = s.opB := congrArg s64 same.wordB

theorem opEps : s'.opEps = s.opEps := congrArg s64 same.eps.symm

theorem opMaxrel : s'.opMaxrel = s.opMaxrel := congrArg s64 same.maxrel.symm

theorem opMaxulp : s'.opMaxulp = s.opMaxulp := congrArg (fun w : Word => (w.toNat : Int)) same.maxulp.symm

end SameOperands

/-- The commands that do more or less than to complete with one value. -/
def nonValueInstrs : List Instr := .nop :: .sincos :: (predicateInstrs ++ unsupportedInstrs)

theorem not_mem_nonValueInstrs_iff {i : Instr} :
    i ∉ nonValueInstrs ↔ i ≠ .nop ∧ i ≠ .sincos ∧ i ∉ predicateInstrs ∧ i ∉ unsupportedInstrs := by
  simp only [nonValueInstrs, List.mem_cons, List.mem_append, not_or]

/-- No predicate is an unsupported function. -/
theorem not_mem_unsupportedInstrs_of_predicate {i : Instr} (mem : i ∈ predicateInstrs) :
    i ∉ unsupportedInstrs := by
  revert i
  decide

/-- How the command acts on two states at once, with the same result for both. -/
inductive CommonEffect (s s' : State) : Instr → State → State → Prop where
  | nothing : CommonEffect s s' .nop s s'
  | value {i : Instr} (single : i ∉ nonValueInstrs) {res res' : Int} (same : res' = res) :
      CommonEffect s s' i (s.completeValue res) (s'.completeValue res')
  | predicate {i : Instr} (mem : i ∈ predicateInstrs) {p p' : Bool} (same : p' = p) :
      CommonEffect s s' i (s.completePredicate p) (s'.completePredicate p')
  | pair {x x' y y' : Int} (sine : x' = x) (cosine : y' = y) :
      CommonEffect s s' .sincos { s.completeValue x with r2 := u64 y }
        { s'.completeValue x' with r2 := u64 y' }
  | noResult :
      CommonEffect s s' .sqrtc { s.setV false with r := 0#64 } { s'.setV false with r := 0#64 }
  | fault {i : Instr} (mem : i ∈ unsupportedInstrs) :
      CommonEffect s s' i (s.raiseFault .unsupported) (s'.raiseFault .unsupported)

/-- Every command acts on two states that agree on its operands in the same way. -/
theorem exec_commonEffect (i : Instr) {s s' : State} (same : SameOperands s s') :
    ∃ t t', exec i s = .next t ∧ exec i s' = .next t' ∧ CommonEffect s s' i t t' := by
  cases i
  case nop => exact ⟨_, _, rfl, rfl, .nothing⟩
  case sincos =>
    exact ⟨_, _, rfl, rfl, .pair (by rw [same.opA]) (by rw [same.opA])⟩
  case sqrtc =>
    by_cases neg : s.opA < 0
    · have neg' : s'.opA < 0 := by rwa [same.opA]
      exact ⟨_, _, congrArg Host.Outcome.next (if_pos neg), congrArg Host.Outcome.next (if_pos neg'),
        .noResult⟩
    · have nonneg' : ¬ s'.opA < 0 := by rwa [same.opA]
      exact ⟨_, _, congrArg Host.Outcome.next (if_neg neg), congrArg Host.Outcome.next (if_neg nonneg'),
        .value (by decide) (by rw [same.wordA])⟩
  case cmpeq | cmpne | cmplt | cmple | isfinite | aeqabs | aeqrel | aequlp =>
    refine ⟨_, _, rfl, rfl, .predicate (by decide) ?_⟩
    simp only [same.wordA, same.wordB, same.opA, same.opB, same.opEps, same.opMaxrel, same.opMaxulp]
  case ln | log2 | log10 | log1p | exp2 | expm1 | cbrt | sinh | cosh | tanh | asinh | acosh |
      atanh | hypot | powi | powf | powc =>
    exact ⟨_, _, rfl, rfl, .fault (by decide)⟩
  all_goals
    refine ⟨_, _, rfl, rfl, .value (by decide) ?_⟩
    simp only [same.wordA, same.opA, same.opB]

/-! ### The results -/

section

variable {s s' t t' : State} {i : Instr} (effect : CommonEffect s s' i t t')
include effect

/-- A command that completes gives both states the same `R` and `V`. -/
theorem CommonEffect.r_flagV (writes : i ≠ .nop) (supported : i ∉ unsupportedInstrs) :
    t.r = t'.r ∧ t.flagV = t'.flagV := by
  cases effect with
  | nothing => exact absurd rfl writes
  | value _ same => simp [same]
  | predicate _ same => simp [same]
  | @pair x x' _ _ sine _ =>
    exact ⟨congrArg u64 sine.symm, (s.completeValue_flagV x).trans (s'.completeValue_flagV x').symm⟩
  | noResult => exact ⟨rfl, (s.setV_flagV false).trans (s'.setV_flagV false).symm⟩
  | fault mem => exact absurd mem supported

/-- A predicate gives both states the same `T`. -/
theorem CommonEffect.flagT_eq (mem : i ∈ predicateInstrs) : t.flagT = t'.flagT := by
  cases effect with
  | predicate _ same => simp [same]
  | value single => exact absurd mem (not_mem_nonValueInstrs_iff.1 single).2.2.1
  | nothing | pair | noResult => exact absurd mem (by decide)
  | fault unsupported => exact absurd unsupported (not_mem_unsupportedInstrs_of_predicate mem)

/-- `SINCOS` gives both states the same `R2`. -/
theorem CommonEffect.r2_eq (sincos : i = .sincos) : t.r2 = t'.r2 := by
  cases effect with
  | pair _ cosine => exact congrArg u64 cosine.symm
  | value single => exact absurd sincos (not_mem_nonValueInstrs_iff.1 single).2.1
  | nothing | noResult => cases sincos
  | predicate mem | fault mem => exact absurd (sincos ▸ mem) (by decide)

end

/-- Settles O56: both states complete with the one effect that the command has on their operands. -/
theorem resultsDependOnOperandsAlone : Obligations.ResultsDependOnOperandsAlone := by
  intro i s s' a b eps maxrel maxulp
  obtain ⟨t, t', run, run', effect⟩ := exec_commonEffect i ⟨a, b, eps, maxrel, maxulp⟩
  exact ⟨t, t', run, run', effect.r_flagV, effect.flagT_eq, effect.r2_eq⟩

/-! ### The frame -/

/-- The effect of a command on one state. -/
theorem commonEffect_of_exec {i : Instr} {s t : State} (run : exec i s = .next t) :
    CommonEffect s s i t t := by
  obtain ⟨u, u', first, second, effect⟩ := exec_commonEffect i (SameOperands.refl s)
  rw [run] at first second
  cases first
  cases second
  exact effect

/-- The field `CAUSE` is bits 15:12 (R29): a cause code shifted there touches no other bit. -/
theorem getLsbD_causeField_of_outside (code : BitVec 4) {k : Nat} (outside : k < 12 ∨ 16 ≤ k) :
    (code.setWidth 64 <<< 12 : Word).getLsbD k = false := by
  rw [BitVec.getLsbD_shiftLeft, BitVec.getLsbD_setWidth]
  rcases outside with below | above
  · simp [below]
  · simp [BitVec.getLsbD_of_ge code (k - 12) (by omega)]

/-- Fault entry leaves the bits of `STATUS` outside `FAULT` and `CAUSE` (R272). -/
theorem raiseFault_status_getLsbD (s : State) (c : FaultCause) {k : Nat} (fault : k ≠ 8)
    (cause : k < 12 ∨ 16 ≤ k) : (s.raiseFault c).status.getLsbD k = s.status.getLsbD k := by
  have mask : (0xF000#64 : Word) = (15#4).setWidth 64 <<< 12 := rfl
  rw [State.raiseFault_status, State.setFault_status, BitVec.getLsbD_or, BitVec.getLsbD_and,
    BitVec.getLsbD_not, mask, getLsbD_causeField_of_outside _ cause,
    getLsbD_causeField_of_outside _ cause, withBit_getLsbD _ _ _ _ (by decide), if_neg fault]
  by_cases inWord : k < 64
  · simp [inWord]
  · simp [inWord, BitVec.getLsbD_of_ge s.status k (by omega)]

/-- Two states with the same plain registers have the same register at every offset other than those of
`STATUS` and `R`, and of `R2` if that differs (R23). -/
theorem register_congr {s t : State} (a : t.a = s.a) (b : t.b = s.b) (cmd : t.cmd = s.cmd)
    (eps : t.eps = s.eps) (maxrel : t.maxrel = s.maxrel) (maxulp : t.maxulp = s.maxulp) {off : Nat}
    (status : off ≠ 0x18) (r : off ≠ 0x20) (r2 : off = 0x28 → t.r2 = s.r2) :
    t.register off = s.register off := by
  rw [State.register_eq_ite, State.register_eq_ite, a, b, cmd, eps, maxrel, maxulp]
  by_cases second : off = 0x28
  · rw [r2 second]
    simp [second]
  · simp [status, r, second]

section

variable {s t t' : State} {i : Instr} (effect : CommonEffect s s i t t')
include effect

theorem CommonEffect.frame :
    t.a = s.a ∧ t.b = s.b ∧ t.cmd = s.cmd ∧ t.eps = s.eps ∧ t.maxrel = s.maxrel ∧
      t.maxulp = s.maxulp ∧ t.issued = s.issued ∧ t.rst = s.rst ∧ t.inbox = s.inbox ∧
      t.reply = s.reply := by
  cases effect <;> simp

theorem CommonEffect.r2_of_ne_sincos (single : i ≠ .sincos) : t.r2 = s.r2 := by
  cases effect with
  | pair => exact absurd rfl single
  | nothing | value | predicate | noResult | fault => rfl

theorem CommonEffect.flagT_of_not_predicate (other : i ∉ predicateInstrs) : t.flagT = s.flagT := by
  cases effect with
  | nothing => rfl
  | value => exact s.completeValue_flagT _
  | predicate mem => exact absurd mem other
  | @pair x => exact s.completeValue_flagT x
  | noResult => exact s.setV_flagT false
  | fault => exact s.raiseFault_flagT _

theorem CommonEffect.r_flagV_of_no_result (without : i = .nop ∨ i ∈ unsupportedInstrs) :
    t.r = s.r ∧ t.flagV = s.flagV := by
  cases effect with
  | nothing => exact ⟨rfl, rfl⟩
  | value single =>
    obtain ⟨writes, _, _, supported⟩ := not_mem_nonValueInstrs_iff.1 single
    exact absurd without (not_or.2 ⟨writes, supported⟩)
  | predicate mem =>
    exact absurd without (not_or.2 ⟨by rintro rfl; revert mem; decide,
      not_mem_unsupportedInstrs_of_predicate mem⟩)
  | pair | noResult => exact absurd without (by decide)
  | fault => exact ⟨rfl, s.raiseFault_flagV _⟩

theorem CommonEffect.fault_of_supported (supported : i ∉ unsupportedInstrs) :
    t.flagFault = s.flagFault ∧ t.cause = s.cause := by
  cases effect with
  | nothing => exact ⟨rfl, rfl⟩
  | value => exact ⟨s.completeValue_flagFault _, s.completeValue_cause _⟩
  | predicate => exact ⟨s.completePredicate_flagFault _, s.completePredicate_cause _⟩
  | @pair x => exact ⟨s.completeValue_flagFault x, s.completeValue_cause x⟩
  | noResult => exact ⟨s.setV_flagFault false, s.setV_cause false⟩
  | fault mem => exact absurd mem supported

/-- The bits of `STATUS` that are no field of R29 are written by no command. -/
theorem CommonEffect.status_getLsbD {k : Nat} (reserved : k ∉ [0, 1, 8, 12, 13, 14, 15]) :
    t.status.getLsbD k = s.status.getLsbD k := by
  simp only [List.mem_cons, List.not_mem_nil, or_false, not_or] at reserved
  obtain ⟨notT, notV, notFault, cause⟩ := reserved
  have setV (v : Word) (x : Bool) : (withBit v 1 x).getLsbD k = v.getLsbD k := by
    rw [withBit_getLsbD v 1 k x (by decide), if_neg notV]
  cases effect with
  | nothing => rfl
  | value | pair | noResult => exact setV _ _
  | predicate =>
    rw [State.completePredicate_status, setV, withBit_getLsbD _ _ _ _ (by decide), if_neg notT]
  | fault => exact raiseFault_status_getLsbD s _ notFault (by omega)

theorem CommonEffect.windowByte {off : Nat}
    (outside : off < 0x18 ∨ 0x30 ≤ off ∨ (0x28 ≤ off ∧ i ≠ .sincos)) :
    t.windowByte off = s.windowByte off := by
  obtain ⟨a, b, cmd, eps, maxrel, maxulp, -⟩ := effect.frame
  refine windowByte_congr s t off
    (register_congr a b cmd eps maxrel maxulp (by omega) (by omega) fun second => ?_)
  rcases outside with below | above | ⟨_, single⟩
  · omega
  · omega
  · exact effect.r2_of_ne_sincos single

end

/-- Settles O55: every command has one of the six effects, and each clause is a field lemma of those. -/
theorem commandFrame : Obligations.CommandFrame := by
  intro i s t run
  have effect := commonEffect_of_exec run
  exact ⟨effect.frame, effect.r2_of_ne_sincos, effect.flagT_of_not_predicate,
    effect.r_flagV_of_no_result, effect.fault_of_supported, fun _ => effect.status_getLsbD,
    fun _ => effect.windowByte⟩

end Sys2Proof.Machine
end

section
/-! The steps of the block: what one step does in each situation that a statement speaks of, derived from
`step_cases`, and the invariant that every step keeps (10_state.md R29, R39; 60_exceptions.md R270 to R277;
70_reset_and_hazards.md R300 to R309). -/

namespace Sys2Proof.Machine

open Sys2Proof

/-! ### The events to come -/

theorem noResets_cons_access (q : BusAccess) (rest : List HostEvent) :
    noResets (.access q :: rest) = noResets rest := rfl

theorem noResets_cons_rst (level : Bool) (rest : List HostEvent) :
    noResets (.rst level :: rest) = false := rfl

/-- No change of `rst` is to come exactly if none is found. -/
theorem firstReset_eq_none_iff (events : List HostEvent) :
    firstReset events = none ↔ noResets events = true := by
  induction events with
  | nil => exact ⟨fun _ => rfl, fun _ => rfl⟩
  | cons e rest ih =>
    cases e with
    | rst level => simp [firstReset, noResets_cons_rst]
    | access q => rw [noResets_cons_access, ← ih, firstReset, Option.map_eq_none_iff]

/-- Without a change of `rst`, every event is an access. -/
theorem exists_access_of_noResets {events : List HostEvent} (never : noResets events = true) :
    ∀ e ∈ events, ∃ q, e = .access q := by
  intro e mem
  have allowed := List.all_eq_true.1 never e mem
  cases e with
  | rst level => cases allowed
  | access q => exact ⟨q, rfl⟩

/-! ### What the parts of a step leave unchanged -/

/-- The execution of a word leaves the registers it may not write, the sequencer and the bus (R272, and the frame of
every command). -/
theorem executeWord_frame {w : Word} {s t : State} (run : executeWord w s = .next t) :
    t.a = s.a ∧ t.b = s.b ∧ t.cmd = s.cmd ∧ t.eps = s.eps ∧ t.maxrel = s.maxrel ∧
      t.maxulp = s.maxulp ∧ t.issued = s.issued ∧ t.rst = s.rst ∧ t.inbox = s.inbox ∧
      t.reply = s.reply := by
  unfold executeWord at run
  split at run
  next i _ => exact (commonEffect_of_exec run).frame
  next =>
    cases run
    simp

/-- The execution of a word that decodes is its command (R75). -/
theorem executeWord_of_decodes {w : Word} {i : Instr} (decodes : decodeWord w = .ok i) (s : State) :
    executeWord w s = exec i s := by
  rw [executeWord, decodes]

/-- The execution of an ill-formed word is the ILLEGAL fault (R75). -/
theorem executeWord_of_illFormed {w : Word} (illFormed : (commandOfWord w).wellFormed = false) (s : State) :
    executeWord w s = .next (s.raiseFault .illegal) := by
  obtain ⟨e, rejects⟩ := (decodeWord_eq_error_iff w).2 illFormed
  rw [executeWord, rejects]

/-- An access leaves `rst` and the events to come, whatever it does (R51 to R53). -/
theorem perform_rst_inbox (s : State) (q : BusAccess) :
    (s.perform q).rst = s.rst ∧ (s.perform q).inbox = s.inbox := by
  cases admitted : q.admitted with
  | false =>
    rw [perform_error s q admitted]
    exact ⟨rfl, rfl⟩
  | true =>
    cases write : q.we with
    | false =>
      rw [perform_read s q admitted write]
      exact ⟨rfl, rfl⟩
    | true =>
      rw [perform_write s q admitted write]
      rcases writeRegister_cases s q.addr.toNat q.wdata with
        ⟨_, h⟩ | ⟨_, h⟩ | ⟨_, _, h⟩ | ⟨_, h⟩ | ⟨_, h⟩ | ⟨_, h⟩ | h <;> rw [h] <;> exact ⟨rfl, rfl⟩

/-- A change of `rst` to 1, or at 1, is the reset state (R300). -/
theorem changeReset_of_reset (s : State) {level : Bool} (rest : List HostEvent)
    (reset : level = true ∨ s.rst = true) :
    s.changeReset level rest = { State.reset with rst := level, inbox := rest } :=
  if_pos (by simpa using reset)

/-- Driving `rst` to 0 at 0 changes nothing (log entry 4). -/
theorem changeReset_of_released (s : State) (rest : List HostEvent) (released : s.rst = false) :
    s.changeReset false rest = { s with inbox := rest } :=
  if_neg (by simp [released])

/-! ### One step in each situation -/

theorem step_of_rst (s : State) {level : Bool} {rest : List HostEvent}
    (first : s.inbox = .rst level :: rest) : step s = .next (s.changeReset level rest) := by
  simpa [first, noResetNext, noResets] using step_cases s

/-- An access in reset is taken away with `bus_err` by a platform that answers (R300, log entry 6). -/
theorem step_of_access_answered (s : State) {q : BusAccess} {rest : List HostEvent} (reset : s.rst = true)
    (first : s.inbox = .access q :: rest) (answers : Config.errorDuringReset = true) :
    step s = .next { s with inbox := rest, reply := some (q.resetReply rest.length) } := by
  simpa [reset, first, answers] using step_cases s

/-- An access in reset waits for the next change of `rst` with a platform that holds it off (R300, log
entry 6). -/
theorem step_of_access_held (s : State) {q : BusAccess} {rest rest' : List HostEvent} {level : Bool}
    (reset : s.rst = true) (first : s.inbox = .access q :: rest)
    (holds : Config.errorDuringReset = false) (next : firstReset rest = some (level, rest')) :
    step s = .next (s.changeReset level (.access q :: rest')) := by
  cases level <;> simpa [reset, first, holds, next] using step_cases s

/-- An access in reset has no step with a platform that holds it off and no change of `rst` to come (log
entry 6). -/
theorem step_of_access_stuck (s : State) {q : BusAccess} {rest : List HostEvent} (reset : s.rst = true)
    (first : s.inbox = .access q :: rest) (holds : Config.errorDuringReset = false)
    (never : firstReset rest = none) : step s = .fault .heldInReset := by
  simpa [reset, first, holds, never] using step_cases s

/-- The step of a busy block executes the issued word, and the sequencer goes idle (R304). -/
theorem step_of_executes {s : State} {c : Issue} (executes : s.Executes c) :
    ∃ t, executeWord c.cmd s = .next t ∧ step s = .next { t with issued := none } := by
  obtain ⟨released, next, busy⟩ := executes
  have notReset : ∀ level rest, s.inbox ≠ .rst level :: rest := by
    intro level rest first
    rw [first] at next
    cases next
  simpa [released, next, busy, notReset, State.retire] using step_cases s

/-! ### Stopping -/

/-- Settles O60: of all that a step can do only the access held for good is no next state, and that is the
step exactly in the situation described. -/
theorem stepStopsOnlyInReset : Obligations.StepStopsOnlyInReset := by
  intro s
  constructor
  · intro e refused
    have possible := step_cases s
    simp [refused] at possible
  constructor
  · rintro ⟨e, stops⟩
    have possible := step_cases s
    simp only [stops, reduceCtorEq, and_false, exists_false, false_or, or_false] at possible
    obtain ⟨reset, q, rest, first, holds, never, -⟩ := possible
    refine ⟨reset, holds, by simp [first], ?_⟩
    rw [first, noResets_cons_access, ← firstReset_eq_none_iff, never]
  · rintro ⟨reset, holds, waiting, never⟩
    cases first : s.inbox with
    | nil => exact absurd first waiting
    | cons e rest =>
      rw [first] at never
      cases e with
      | rst level => cases never
      | access q =>
        exact ⟨_, step_of_access_stuck s reset first holds ((firstReset_eq_none_iff rest).2 never)⟩

/-! ### Reset -/

/-- Settles O6: a rise or a release is a change to the reset state; an access in reset is answered, or the next change
of `rst` is taken before it. -/
theorem resetAbandonsEverything : Obligations.ResetAbandonsEverything := by
  intro s rest
  refine ⟨fun first => ?_, fun reset first => ?_, fun q before after level reset first later held => ?_⟩
  · refine ⟨_, step_of_rst s first, ?_⟩
    rw [changeReset_of_reset s rest (.inl rfl)]
    exact ⟨rfl, rfl, State.reset_faultIrq, rfl⟩
  · refine ⟨_, step_of_rst s first, ?_⟩
    rw [changeReset_of_reset s rest (.inr reset)]
    exact ⟨rfl, rfl, State.reset_faultIrq, rfl⟩
  · refine ⟨fun answers => ?_, fun holds => ?_⟩
    · obtain ⟨error, -⟩ := resetReply_cases q rest.length
      exact ⟨_, _, step_of_access_answered s reset first answers, error, rfl, fun keeps => keeps reset⟩
    · have next : firstReset rest = some (level, before ++ after) := by
        rw [later, firstReset_append before after level (exists_access_of_noResets held)]
      refine ⟨_, step_of_access_held s reset first holds next, ?_⟩
      rw [changeReset_of_reset s _ (.inr reset)]
      exact ⟨rfl, rfl, State.reset_faultIrq, rfl⟩

/-- What a step in reset with no change of `rst` to come can do: nothing, or take an access away with an answer
(R300). -/
theorem step_in_reset_cases {s t : State} (reset : s.rst = true) (never : noResets s.inbox = true)
    (run : step s = .next t) :
    t = s ∨ ∃ q rest p, s.inbox = .access q :: rest ∧ t = { s with inbox := rest, reply := some p } := by
  cases first : s.inbox with
  | nil =>
    have stays : step s = .next s := by simpa [reset, first] using step_cases s
    rw [run] at stays
    cases stays
    exact .inl rfl
  | cons e rest =>
    rw [first] at never
    cases e with
    | rst level => cases never
    | access q =>
      refine .inr ⟨q, rest, q.resetReply rest.length, rfl, ?_⟩
      cases answers : Config.errorDuringReset with
      | true =>
        rw [step_of_access_answered s reset first answers] at run
        cases run
        rfl
      | false =>
        rw [step_of_access_stuck s reset first answers ((firstReset_eq_none_iff rest).2 never)] at run
        cases run

/-- The state `s` with nothing changed but what waits on the bus, still in reset and with no change of `rst`
to come. -/
def OnlyBusChanged (s t : State) : Prop :=
  t = { s with inbox := t.inbox, reply := t.reply } ∧ t.rst = true ∧ noResets t.inbox = true

theorem OnlyBusChanged.step {s t u : State} (changed : OnlyBusChanged s t) (run : step t = .next u) :
    OnlyBusChanged s u := by
  obtain ⟨same, reset, never⟩ := changed
  rcases step_in_reset_cases reset never run with rfl | ⟨q, rest, p, first, rfl⟩
  · exact ⟨same, reset, never⟩
  · rw [first] at never
    exact ⟨by rw [same], reset, never⟩

/-- Settles O7: a step in reset at most answers an access, and a run keeps that. -/
theorem noAccessIsPerformedInReset : Obligations.NoAccessIsPerformedInReset := by
  intro k s t reset never run
  have changed : OnlyBusChanged s t :=
    run_invariant (OnlyBusChanged s) (fun _ _ => OnlyBusChanged.step) k s t ⟨rfl, reset, never⟩ run
  exact ⟨changed.1, changed.2.2⟩

/-! ### Execution -/

/-- Settles O14: the word that decodes is executed as its command. -/
theorem stepRunsTheDecodedCommand : Obligations.StepRunsTheDecodedCommand := by
  intro s c i executes decodes
  obtain ⟨t, run, next⟩ := step_of_executes executes
  rw [executeWord_of_decodes decodes] at run
  exact ⟨t, run, next⟩

/-- Settles O17: the execution of an ill-formed word is the fault entry with code 2. -/
theorem illegalWordOnlyEntersTheFault : Obligations.IllegalWordOnlyEntersTheFault := by
  intro s c executes illFormed
  obtain ⟨t, run, next⟩ := step_of_executes executes
  rw [executeWord_of_illFormed illFormed, raiseFault_eq_afterFault] at run
  cases run
  exact next

/-- The words 0x30 to 0x40 are those of the unsupported commands (R271). -/
theorem unsupported_word_iff (w : Word) :
    (0x30 ≤ w.toNat ∧ w.toNat ≤ 0x40) ↔ ∃ i ∈ unsupportedInstrs, encode i = w := by
  have count : unsupportedInstrs.length = 17 := rfl
  constructor
  · rintro ⟨lo, hi⟩
    have row := encode_unsupported ⟨w.toNat - 0x30, by omega⟩
    refine ⟨_, List.getElem_mem _, row.trans ?_⟩
    rw [Nat.add_sub_cancel' lo, BitVec.ofNat_toNat, BitVec.setWidth_eq]
  · rintro ⟨i, mem, rfl⟩
    obtain ⟨n, bound, rfl⟩ := List.getElem_of_mem mem
    have row : encode unsupportedInstrs[n] = BitVec.ofNat 64 (0x30 + n) := encode_unsupported ⟨n, bound⟩
    rw [row, BitVec.toNat_ofNat]
    omega

theorem encode_injective {i j : Instr} (same : encode i = encode j) : i = j := by
  have decodes := decodeWord_encode i
  rw [same, decodeWord_encode] at decodes
  cases decodes
  rfl

/-- The word of a command is one of 0x30 to 0x40 exactly if the command is unsupported. -/
theorem unsupported_word_encode_iff (i : Instr) :
    (0x30 ≤ (encode i).toNat ∧ (encode i).toNat ≤ 0x40) ↔ i ∈ unsupportedInstrs := by
  rw [unsupported_word_iff]
  constructor
  · rintro ⟨j, mem, same⟩
    exact encode_injective same ▸ mem
  · exact fun mem => ⟨i, mem, rfl⟩

/-- Settles O16: a word that decodes faults exactly if its command is unsupported, with cause 1; every other
word faults with cause 2 and is no encoding, so none of 0x30 to 0x40. -/
theorem faultsAreExactlyTheListedOnes : Obligations.FaultsAreExactlyTheListedOnes := by
  intro s c executes unfaulted
  obtain ⟨t, run, next⟩ := step_of_executes executes
  refine ⟨_, next, ?_⟩
  show ((t.flagFault = true ∧ t.cause = 1#4) ↔ _) ∧ ((t.flagFault = true ∧ t.cause = 2#4) ↔ _) ∧
    (t.flagFault = true → t.cause = 1#4 ∨ t.cause = 2#4)
  cases legal : (commandOfWord c.cmd).wellFormed with
  | true =>
    obtain ⟨i, decodes⟩ := (legalWordsAreTheWellFormedOnes c.cmd).2 legal
    rw [executeWord_of_decodes decodes] at run
    rw [(decodeIsInverseOfEncode c.cmd i).1 decodes, unsupported_word_encode_iff]
    by_cases unsupported : i ∈ unsupportedInstrs
    · have fault : s.raiseFault .unsupported = s.afterFault 1#64 := raiseFault_eq_afterFault s _
      rw [exec_of_mem_unsupportedInstrs unsupported, ← fault] at run
      cases run
      simp [unsupported, causeCode]
    · have clear : t.flagFault = false :=
        ((commonEffect_of_exec run).fault_of_supported unsupported).1.trans unfaulted
      simp [unsupported, clear]
  | false =>
    rw [executeWord_of_illFormed legal] at run
    cases run
    have outside : ¬ (0x30 ≤ c.cmd.toNat ∧ c.cmd.toNat ≤ 0x40) := by
      rw [unsupported_word_iff]
      rintro ⟨i, -, encodes⟩
      rw [← encodes, commandOfWord_encode, instrFields_wellFormed] at legal
      cases legal
    simp [outside, causeCode]

/-! ### Accesses -/

/-- The access that an 8-byte write at an offset of the window puts on the port (R50). -/
theorem memWrite_fxuBase_add {off : Nat} (inWindow : off < 256) (v : Word) :
    memWrite (Config.fxuBase + off) 8 v = some ⟨BitVec.ofNat 8 off, 8#4, true, v⟩ := by
  simp [memWrite, windowOffset_fxuBase_add off inWindow, busSize]

/-- The effect of a write as a test of the offset (R53, R274). -/
theorem State.writeRegister_eq_ite (s : State) (off : Nat) (v : Word) :
    s.writeRegister off v =
      if off = 0x00 then { s with a := v } else if off = 0x08 then { s with b := v }
      else if off = 0x10 ∧ s.flagFault = false then s.issue v
      else if off = 0x30 then { s with eps := v } else if off = 0x38 then { s with maxrel := v }
      else if off = 0x40 then { s with maxulp := v } else s := by
  have command : (if s.flagFault then s else s.issue v) = if s.flagFault = false then s.issue v else s := by
    cases s.flagFault <;> rfl
  unfold State.writeRegister
  split <;> simp_all

/-- Settles O9: the write reaches the block at its offset, is admitted, and an idle block performs it. -/
theorem writeChangesOnlyTheRegisterItNames : Obligations.WriteChangesOnlyTheRegisterItNames := by
  intro off v inWindow aligned
  refine ⟨_, memWrite_fxuBase_add inWindow v, fun s rest idle first => ⟨⟨false, none⟩, rfl, ?_⟩⟩
  have offset : (BitVec.ofNat 8 off).toNat = off := Nat.mod_eq_of_lt inWindow
  rw [step_of_idle_access s _ rest idle first,
    perform_write _ _ ((BusAccess.admitted_iff _).2 ⟨rfl, by rw [offset, aligned]⟩) rfl,
    offset, State.writeRegister_eq_ite]
  have unfaulted : { s with inbox := rest }.flagFault = s.flagFault := rfl
  simp only [unfaulted]
  split_ifs <;> rfl

/-- Settles O11: the offset of the register is the window offset rounded down to 8, and its byte is cut out of
the register (R54). -/
theorem windowBytesAreLittleEndian : Obligations.WindowBytesAreLittleEndian := by
  intro s off k j aligned byte bit
  have within : (off + k) % 8 = k := by omega
  rw [State.windowByte, within, Nat.add_sub_cancel, byteOfWord, BitVec.getLsbD_extractLsb']
  simp [bit]

/-- The registers that a write only stores to (R53). -/
def plainOffsets : List (BitVec 8) := [0x00#8, 0x08#8, 0x30#8, 0x38#8, 0x40#8]

/-- An 8-byte access to a plain register is admitted (R51). -/
theorem admitted_of_plain {off : BitVec 8} (plain : off ∈ plainOffsets) (we : Bool) (data : Word) :
    (⟨off, 8#4, we, data⟩ : BusAccess).admitted = true := by
  have aligned : ∀ off ∈ plainOffsets, off.toNat % 8 = 0 := by decide
  exact (BusAccess.admitted_iff _).2 ⟨rfl, aligned off plain⟩

/-- A write to a plain register leaves it readable with the value written, and the sequencer as it was (R53). -/
theorem perform_write_plain (s : State) {off : BitVec 8} (v : Word) (plain : off ∈ plainOffsets) :
    (s.perform ⟨off, 8#4, true, v⟩).register off.toNat = v ∧
      (s.perform ⟨off, 8#4, true, v⟩).issued = s.issued := by
  rw [perform_write s _ (admitted_of_plain plain true v) rfl]
  unfold plainOffsets at plain
  fin_cases plain <;> exact ⟨rfl, rfl⟩

/-- A read of a plain register answers with it (R52). -/
theorem perform_read_plain (s : State) {off : BitVec 8} (x : Word) (plain : off ∈ plainOffsets) :
    (s.perform ⟨off, 8#4, false, x⟩).reply = some ⟨false, some (s.register off.toNat)⟩ := by
  rw [perform_read s _ (admitted_of_plain plain false x) rfl]

/-- Settles O12: the write leaves the block idle, so that the next step performs the read. -/
theorem readAfterWriteReturnsTheValue : Obligations.ReadAfterWriteReturnsTheValue := by
  intro s off v x rest idle plain waiting
  have write := step_of_idle_access s _ _ idle waiting
  obtain ⟨released, arrived⟩ := perform_rst_inbox
    { s with inbox := .access ⟨off, 8#4, false, x⟩ :: rest } ⟨off, 8#4, true, v⟩
  obtain ⟨stored, unissued⟩ :=
    perform_write_plain { s with inbox := .access ⟨off, 8#4, false, x⟩ :: rest } v plain
  generalize { s with inbox := .access ⟨off, 8#4, false, x⟩ :: rest }.perform ⟨off, 8#4, true, v⟩ = u at *
  have read := step_of_idle_access u _ _ ⟨released.trans idle.1, unissued.trans idle.2⟩ arrived
  refine ⟨_, (run_succ_of_step 1 s _ write).trans (run_succ_of_step 0 _ _ read),
    (perform_rst_inbox _ _).2, ?_⟩
  rw [perform_read_plain _ x plain, ← stored]
  rfl

/-- Settles O13: the step of a busy block executes the issued word, which leaves what waits on the bus. -/
theorem accessWaitsWhileBusy : Obligations.AccessWaitsWhileBusy := by
  intro s c q rest released busy waiting
  obtain ⟨t, run, next⟩ := step_of_executes (s := s) (c := c) ⟨released, by rw [waiting]; rfl, busy⟩
  obtain ⟨-, -, -, -, -, -, -, -, inbox, reply⟩ := executeWord_frame run
  refine ⟨by rw [State.busReady, busy]; rfl, _, next, inbox.trans waiting, reply, rfl⟩

/-- The write of a word to `CMD` of a block that has not faulted issues it (R26). -/
theorem perform_commandWrite (s : State) (w : Word) (unfaulted : s.flagFault = false) :
    s.perform (commandWrite w) = { s.issue w with reply := some ⟨false, none⟩ } := by
  have issues : s.writeRegister (commandWrite w).addr.toNat w = s.issue w := by
    rw [State.writeRegister_eq_ite]
    simp [commandWrite, unfaulted]
  rw [perform_write s _ ((BusAccess.admitted_iff _).2 ⟨rfl, by simp [commandWrite]⟩) rfl]
  exact congrArg (fun u : State => { u with reply := some ⟨false, none⟩ }) issues

/-- Settles O15: the write of a command's word issues it with copies of the registers, and the step after it
runs the command, which leaves what waits on the bus. -/
theorem commandWriteRunsTheCommand : Obligations.CommandWriteRunsTheCommand := by
  intro s i rest idle unfaulted first next
  have issue := step_of_idle_access s _ rest idle first
  rw [perform_commandWrite { s with inbox := rest } _ unfaulted] at issue
  obtain ⟨t, run, second⟩ := stepRunsTheDecodedCommand
    { { s with inbox := rest }.issue (encode i) with reply := some ⟨false, none⟩ }
    ⟨encode i, s.a, s.b, s.eps, s.maxrel, s.maxulp⟩ i ⟨idle.1, next, rfl⟩ (decodeWord_encode i)
  obtain ⟨-, -, -, -, -, -, -, -, inbox, -⟩ := (commonEffect_of_exec run).frame
  exact ⟨_, t, issue, rfl, run, second, inbox⟩

/-! ### Completion -/

/-- How many steps the block still has work for: two for each waiting access, and one for the command that is
executing (log entry 3). -/
def State.workToDo (s : State) : Nat := 2 * s.inbox.length + if s.issued.isSome then 1 else 0

theorem workToDo_le (s : State) : s.workToDo ≤ 2 * s.inbox.length + 1 := by
  unfold State.workToDo
  split <;> omega

theorem workToDo_eq_zero_iff (s : State) : s.workToDo = 0 ↔ s.inbox = [] ∧ s.issued = none := by
  unfold State.workToDo
  cases s.issued <;> simp

/-- Out of reset and with no reset to come, a step does some of the work while there is any. -/
theorem step_reduces_workToDo {s : State} (released : s.rst = false) (never : noResets s.inbox = true) :
    ∃ t, step s = .next t ∧ t.rst = false ∧ noResets t.inbox = true ∧ t.workToDo ≤ s.workToDo - 1 := by
  cases busy : s.issued with
  | some c =>
    have next : noResetNext s.inbox = true := by
      cases first : s.inbox with
      | nil => rfl
      | cons e rest =>
        rw [first] at never
        cases e with
        | rst level => cases never
        | access q => rfl
    obtain ⟨t, run, step⟩ := step_of_executes ⟨released, next, busy⟩
    obtain ⟨-, -, -, -, -, -, -, rst, inbox, -⟩ := executeWord_frame run
    refine ⟨_, step, rst.trans released, inbox ▸ never, ?_⟩
    simp [State.workToDo, busy, inbox]
  | none =>
    cases first : s.inbox with
    | nil =>
      have stays : step s = .next s := by simpa [released, busy, first] using step_cases s
      refine ⟨s, stays, released, never, ?_⟩
      simp [State.workToDo, busy, first]
    | cons e rest =>
      rw [first] at never
      cases e with
      | rst level => cases never
      | access q =>
        obtain ⟨rst, inbox⟩ := perform_rst_inbox { s with inbox := rest } q
        refine ⟨_, step_of_idle_access s q rest ⟨released, busy⟩ first, rst.trans released, ?_, ?_⟩
        · rwa [inbox]
        · have left := workToDo_le ({ s with inbox := rest }.perform q)
          rw [inbox] at left
          simp only [State.workToDo, busy, first, List.length_cons] at left ⊢
          omega

/-- As many steps as there is work for finish it. -/
theorem run_completes (k : Nat) {s : State} (released : s.rst = false) (never : noResets s.inbox = true)
    (enough : s.workToDo ≤ k) : ∃ t, run k s = .next t ∧ t.inbox = [] ∧ t.issued = none := by
  induction k generalizing s with
  | zero => exact ⟨s, run_zero s, (workToDo_eq_zero_iff s).1 (Nat.le_zero.1 enough)⟩
  | succ k ih =>
    obtain ⟨t, step, rst, inbox, less⟩ := step_reduces_workToDo released never
    rw [run_succ_of_step k s t step]
    exact ih rst inbox (by omega)

/-- Settles O59: the steps counted are at least the work to do. -/
theorem everyAccessCompletes : Obligations.EveryAccessCompletes :=
  fun s released never => run_completes _ released never (workToDo_le s)

/-! ### The invariant -/

/-- The invariant does not speak of what waits on the bus. -/
theorem State.Inv.withBus {s : State} (inv : s.Inv) (events : List HostEvent) (reply : Option BusReply) :
    State.Inv { s with inbox := events, reply := reply } := inv

/-- The reset state meets the invariant at either level of `rst` and whatever is to come (R41, R300). -/
theorem inv_reset (level : Bool) (events : List HostEvent) :
    State.Inv { State.reset with rst := level, inbox := events } := by
  refine ⟨⟨BitVec.zero_and, fun _ => State.reset_cause, fun fault => ?_⟩, .inl rfl, fun _ => rfl, fun _ => rfl⟩
  exact absurd (State.reset_flagFault.symm.trans fault) Bool.false_ne_true

/-- Settles O57, as the case of a released `rst` and nothing to come. -/
theorem resetMeetsTheInvariant : Obligations.ResetMeetsTheInvariant := inv_reset false []

theorem inv_changeReset {s : State} (inv : s.Inv) (level : Bool) (rest : List HostEvent) :
    (s.changeReset level rest).Inv := by
  by_cases reset : level = true ∨ s.rst = true
  · rw [changeReset_of_reset s rest reset]
    exact inv_reset level rest
  · simp only [not_or, Bool.not_eq_true] at reset
    obtain ⟨rfl, released⟩ := reset
    rw [changeReset_of_released s rest released]
    exact inv.withBus rest s.reply

/-- The bits of the mask of R29's fields. -/
theorem fieldMask_getLsbD (k : Nat) :
    (0xF103#64 : Word).getLsbD k = true ↔ k ∈ [0, 1, 8, 12, 13, 14, 15] := by
  by_cases inWord : k < 64
  · have bits : ∀ k : Fin 64, (0xF103#64 : Word).getLsbD k = true ↔ k.val ∈ [0, 1, 8, 12, 13, 14, 15] := by
      decide
    exact bits ⟨k, inWord⟩
  · rw [BitVec.getLsbD_of_ge _ k (by omega)]
    simp only [List.mem_cons, List.not_mem_nil, or_false, Bool.false_eq_true, false_iff]
    omega

/-- The reserved bits of `STATUS` are those that are no field of R29. -/
theorem reserved_eq_zero_iff (v : Word) :
    v &&& ~~~0xF103#64 = 0#64 ↔ ∀ k ∉ [0, 1, 8, 12, 13, 14, 15], v.getLsbD k = false := by
  constructor
  · intro zero k reserved
    have bit := congrArg (BitVec.getLsbD · k) zero
    rw [← fieldMask_getLsbD, Bool.not_eq_true] at reserved
    by_cases inWord : k < 64
    · simpa only [BitVec.getLsbD_and, BitVec.getLsbD_not, reserved, inWord, decide_true, Bool.not_false,
        Bool.and_true, BitVec.getLsbD_zero] using bit
    · exact BitVec.getLsbD_of_ge v k (by omega)
  · intro clear
    apply BitVec.eq_of_getLsbD_eq
    intro k inWord
    by_cases field : k ∈ [0, 1, 8, 12, 13, 14, 15]
    · simp only [BitVec.getLsbD_and, BitVec.getLsbD_not, (fieldMask_getLsbD k).2 field, Bool.not_true,
        Bool.and_false, BitVec.getLsbD_zero]
    · simp only [BitVec.getLsbD_and, clear k field, Bool.false_and, BitVec.getLsbD_zero]

/-- Execution keeps the reserved bits of `STATUS`. -/
theorem executeWord_reserved {w : Word} {s t : State} (run : executeWord w s = .next t)
    (zero : s.status &&& ~~~0xF103#64 = 0#64) : t.status &&& ~~~0xF103#64 = 0#64 := by
  rw [reserved_eq_zero_iff] at zero ⊢
  intro k reserved
  rw [← zero k reserved]
  unfold executeWord at run
  split at run
  next => exact (commonEffect_of_exec run).status_getLsbD reserved
  next =>
    cases run
    simp only [List.mem_cons, List.not_mem_nil, or_false, not_or] at reserved
    exact raiseFault_status_getLsbD s _ (by omega) (by omega)

/-- After an execution without a fault before, there is no fault and no cause, or a fault with cause 1 or 2 (R270,
R272). -/
theorem executeWord_fault_cause {w : Word} {s t : State} (run : executeWord w s = .next t)
    (unfaulted : s.flagFault = false) (noCause : s.cause = 0#4) :
    (t.flagFault = false ∧ t.cause = 0#4) ∨ (t.flagFault = true ∧ (t.cause = 1#4 ∨ t.cause = 2#4)) := by
  unfold executeWord at run
  split at run
  next i _ =>
    by_cases unsupported : i ∈ unsupportedInstrs
    · have fault : s.raiseFault .unsupported = s.afterFault 1#64 := raiseFault_eq_afterFault s _
      rw [exec_of_mem_unsupportedInstrs unsupported, ← fault] at run
      cases run
      simp [causeCode]
    · obtain ⟨flag, cause⟩ := (commonEffect_of_exec run).fault_of_supported unsupported
      exact .inl ⟨flag.trans unfaulted, cause.trans noCause⟩
  next =>
    cases run
    simp [causeCode]

/-- Execution writes `V = 0` only with `R = 0` (log entry 13). -/
theorem executeWord_noResult {w : Word} {s t : State} (run : executeWord w s = .next t)
    (noResult : s.NoResultIsZero) : t.NoResultIsZero := by
  intro empty
  unfold executeWord at run
  split at run
  next i _ =>
    cases effect_of_exec i s t run with
    | nothing => exact noResult empty
    | value | predicate => simp at empty
    | pair x y => exact absurd ((s.completeValue_flagV x).symm.trans empty) Bool.true_eq_false_eq_False
    | noResult => rfl
    | fault => exact noResult ((s.raiseFault_flagV _).symm.trans empty)
  next =>
    cases run
    exact noResult ((s.raiseFault_flagV _).symm.trans empty)

/-- The execution of an issued word keeps the invariant. -/
theorem inv_of_execution {s t : State} {c : Issue} (inv : s.Inv) (released : s.rst = false)
    (busy : s.issued = some c) (run : executeWord c.cmd s = .next t) : t.retire.Inv := by
  obtain ⟨⟨reserved, noCause, -⟩, issue, noResult, -⟩ := inv
  have unfaulted : s.flagFault = false := by
    rcases issue with idle | ⟨-, unfaulted, -⟩
    · rw [busy] at idle
      cases idle
    · exact unfaulted
  obtain ⟨-, -, -, -, -, -, -, rst, -, -⟩ := executeWord_frame run
  have keeps : t.NoResultIsZero := executeWord_noResult run noResult
  have zero : t.status &&& ~~~0xF103#64 = 0#64 := executeWord_reserved run reserved
  refine ⟨⟨zero, ?_⟩, .inl rfl, keeps, ?_⟩
  · show (t.flagFault = false → t.cause = 0#4) ∧ (t.flagFault = true → t.cause = 1#4 ∨ t.cause = 2#4)
    rcases executeWord_fault_cause run unfaulted (noCause unfaulted) with ⟨flag, cause⟩ | ⟨flag, cause⟩
    · simp [flag, cause]
    · simp [flag, cause]
  · intro reset
    exact absurd ((rst.trans released).symm.trans reset) Bool.false_ne_true

/-- Out of reset, the invariant speaks of `STATUS`, `R` and the issued command alone. -/
theorem inv_of_status_r {s t : State} (inv : s.Inv) (status : t.status = s.status) (r : t.r = s.r)
    (released : t.rst = false) (issue : t.IssueLegal) : t.Inv := by
  obtain ⟨legal, -, noResult, -⟩ := inv
  refine ⟨?_, issue, ?_, fun reset => absurd (released.symm.trans reset) Bool.false_ne_true⟩
  · unfold State.StatusLegal State.flagFault State.cause
    rw [status]
    exact legal
  · unfold State.NoResultIsZero State.flagV
    rw [status, r]
    exact noResult

/-- A write performed by an idle block out of reset keeps the invariant: it writes no field of `STATUS` and no
result, and what it issues are the registers as they stand (R26, R274). -/
theorem inv_writeRegister {s : State} (inv : s.Inv) (released : s.rst = false) (idle : s.issued = none)
    (off : Nat) (v : Word) : (s.writeRegister off v).Inv := by
  rcases writeRegister_cases s off v with
    ⟨-, h⟩ | ⟨-, h⟩ | ⟨-, unfaulted, h⟩ | ⟨-, h⟩ | ⟨-, h⟩ | ⟨-, h⟩ | h <;> rw [h]
  case inr.inr.inl => exact inv_of_status_r inv rfl rfl released (.inr ⟨rfl, unfaulted, released⟩)
  case inr.inr.inr.inr.inr.inr => exact inv
  all_goals exact inv_of_status_r inv rfl rfl released (.inl idle)

theorem inv_perform {s : State} (inv : s.Inv) (released : s.rst = false) (idle : s.issued = none)
    (q : BusAccess) : (s.perform q).Inv := by
  cases admitted : q.admitted with
  | false =>
    rw [perform_error s q admitted]
    exact inv.withBus s.inbox _
  | true =>
    cases write : q.we with
    | false =>
      rw [perform_read s q admitted write]
      exact inv.withBus s.inbox _
    | true =>
      rw [perform_write s q admitted write]
      exact (inv_writeRegister inv released idle _ _).withBus _ _

/-- Settles O58: each of the things that a step can do keeps the invariant. -/
theorem everyStepKeepsTheInvariant : Obligations.EveryStepKeepsTheInvariant := by
  intro s t inv run
  rcases step_cases s with ⟨level, rest, -, next⟩ | ⟨-, -, next⟩ | ⟨-, q, rest, -, -, next⟩ |
    ⟨-, q, rest, level, rest', -, -, -, next⟩ | ⟨-, q, rest, -, -, -, stuck⟩ |
    ⟨released, -, c, u, busy, execution, next⟩ | ⟨released, idle, q, rest, -, next⟩ | ⟨-, -, -, next⟩
  case inr.inr.inr.inr.inl =>
    rw [run] at stuck
    cases stuck
  all_goals
    rw [run] at next
    cases next
  · exact inv_changeReset inv level rest
  · exact inv
  · exact inv.withBus rest _
  · exact inv_changeReset inv level _
  · exact inv_of_execution inv released busy execution
  · exact inv_perform (inv.withBus rest s.reply) released idle q
  · exact inv

/-! ### The fault -/

/-- The state `t` with the fault, the command and the results of `s`, and no change of `rst` to come. -/
def FaultStands (s t : State) : Prop :=
  t.Inv ∧ t.flagFault = true ∧ noResets t.inbox = true ∧
    t.status = s.status ∧ t.cmd = s.cmd ∧ t.r = s.r ∧ t.r2 = s.r2

/-- A faulted state that meets the invariant has an idle sequencer (R273). -/
theorem idle_of_faulted {s : State} (inv : s.Inv) (fault : s.flagFault = true) : s.issued = none := by
  obtain ⟨-, idle | ⟨-, unfaulted, -⟩, -, -⟩ := inv
  · exact idle
  · exact absurd (unfaulted.symm.trans fault) Bool.false_ne_true

/-- A write to a faulted block leaves `STATUS`, `CMD` and the results (R274). -/
theorem perform_of_faulted {s : State} (fault : s.flagFault = true) (q : BusAccess) :
    (s.perform q).status = s.status ∧ (s.perform q).cmd = s.cmd ∧ (s.perform q).r = s.r ∧
      (s.perform q).r2 = s.r2 := by
  cases admitted : q.admitted with
  | false =>
    rw [perform_error s q admitted]
    exact ⟨rfl, rfl, rfl, rfl⟩
  | true =>
    cases write : q.we with
    | false =>
      rw [perform_read s q admitted write]
      exact ⟨rfl, rfl, rfl, rfl⟩
    | true =>
      rw [perform_write s q admitted write]
      rcases writeRegister_cases s q.addr.toNat q.wdata with
        ⟨-, h⟩ | ⟨-, h⟩ | ⟨-, unfaulted, h⟩ | ⟨-, h⟩ | ⟨-, h⟩ | ⟨-, h⟩ | h
      case inr.inr.inl => exact absurd (unfaulted.symm.trans fault) Bool.false_ne_true
      all_goals
        rw [h]
        exact ⟨rfl, rfl, rfl, rfl⟩

/-- What a step of a faulted block with no change of `rst` to come can do: nothing, or answer or perform an
access. -/
theorem step_of_faulted_cases {s t : State} (inv : s.Inv) (fault : s.flagFault = true)
    (never : noResets s.inbox = true) (run : step s = .next t) :
    t = s ∨ ∃ q rest, s.inbox = .access q :: rest ∧
      ((∃ p, t = { s with inbox := rest, reply := some p }) ∨ t = { s with inbox := rest }.perform q) := by
  have idle := idle_of_faulted inv fault
  rcases Bool.eq_false_or_eq_true s.rst with reset | reset
  · rcases step_in_reset_cases reset never run with same | ⟨q, rest, p, first, answered⟩
    · exact .inl same
    · exact .inr ⟨q, rest, first, .inl ⟨p, answered⟩⟩
  · cases first : s.inbox with
    | nil =>
      have stays : step s = .next s := by simpa [reset, idle, first] using step_cases s
      rw [run] at stays
      cases stays
      exact .inl rfl
    | cons e rest =>
      rw [first] at never
      cases e with
      | rst level => cases never
      | access q =>
        rw [step_of_idle_access s q rest ⟨reset, idle⟩ first] at run
        cases run
        exact .inr ⟨q, rest, rfl, .inr rfl⟩

theorem FaultStands.step {s t u : State} (stands : FaultStands s t) (run : step t = .next u) :
    FaultStands s u := by
  obtain ⟨inv, fault, never, status, cmd, r, r2⟩ := stands
  have inv' : u.Inv := everyStepKeepsTheInvariant t u inv run
  rcases step_of_faulted_cases inv fault never run with rfl | ⟨q, rest, first, ⟨p, rfl⟩ | rfl⟩
  · exact ⟨inv, fault, never, status, cmd, r, r2⟩
  · rw [first] at never
    exact ⟨inv', fault, never, status, cmd, r, r2⟩
  · rw [first] at never
    obtain ⟨status', cmd', same, same2⟩ := perform_of_faulted (s := { t with inbox := rest }) fault q
    obtain ⟨-, inbox⟩ := perform_rst_inbox { t with inbox := rest } q
    refine ⟨inv', ?_, inbox ▸ never, status'.trans status, cmd'.trans cmd, same.trans r,
      same2.trans r2⟩
    rw [State.flagFault, status']
    exact fault

/-- Settles O19: the fault stands after every step, so after every run; the sequencer is idle by the invariant. -/
theorem faultIsFinalUntilReset : Obligations.FaultIsFinalUntilReset := by
  intro k s t inv fault never run
  obtain ⟨inv', fault', -, status, cmd, r, r2⟩ :=
    run_invariant (FaultStands s) (fun _ _ => FaultStands.step) k s t
      ⟨inv, fault, never, rfl, rfl, rfl, rfl⟩ run
  exact ⟨status, cmd, r, r2, idle_of_faulted inv' fault', fault'⟩

end Sys2Proof.Machine
end

section
/-! The bounds of the CORDIC loops (41_evaluator.md R163, R166, R170). Each loop is a fold over its table, so a bound
on its registers is a fold of what one iteration does to the bound; the numbers come out by evaluating that. -/

namespace Sys2Proof.Machine

open Sys2Proof

/-! ### One iteration -/

/-- The floored shift of a bounded register is bounded, with one unit for the rounding. -/
theorem abs_ediv_two_pow_le {v m : Int} (bound : |v| ≤ m) (i : Nat) : |v / 2 ^ i| ≤ m / 2 ^ i + 1 := by
  have pos : (0 : Int) < 2 ^ i := by positivity
  obtain ⟨lo, hi⟩ := abs_le.1 bound
  have upper : v / 2 ^ i ≤ m / 2 ^ i := Int.ediv_le_ediv pos hi
  have lower : -(m / 2 ^ i + 1) ≤ v / 2 ^ i := by
    rw [Int.le_ediv_iff_mul_le pos]
    have := Int.lt_ediv_add_one_mul_self m pos
    linarith
  have nonneg : 0 ≤ m / 2 ^ i := Int.ediv_nonneg ((abs_nonneg v).trans bound) pos.le
  exact abs_le.2 ⟨lower, by omega⟩

theorem rotateIteration_of_nonneg {c : Cordic} (e : Nat × Int) (h : 0 ≤ c.z) :
    rotateIteration c e = ⟨c.x - c.y / 2 ^ e.1, c.y + c.x / 2 ^ e.1, c.z - e.2⟩ := by
  rw [rotateIteration, if_pos h, rotateLeft, shr_eq_ediv, shr_eq_ediv]

theorem rotateIteration_of_neg {c : Cordic} (e : Nat × Int) (h : c.z < 0) :
    rotateIteration c e = ⟨c.x + c.y / 2 ^ e.1, c.y - c.x / 2 ^ e.1, c.z + e.2⟩ := by
  rw [rotateIteration, if_neg (not_le.2 h), rotateRight, shr_eq_ediv, shr_eq_ediv]

theorem vectorIteration_of_neg {c : Cordic} (e : Nat × Int) (h : c.y < 0) :
    vectorIteration c e = ⟨c.x - c.y / 2 ^ e.1, c.y + c.x / 2 ^ e.1, c.z - e.2⟩ := by
  rw [vectorIteration, if_pos h, rotateLeft, shr_eq_ediv, shr_eq_ediv]

theorem vectorIteration_of_pos {c : Cordic} (e : Nat × Int) (h : 0 < c.y) :
    vectorIteration c e = ⟨c.x + c.y / 2 ^ e.1, c.y - c.x / 2 ^ e.1, c.z + e.2⟩ := by
  rw [vectorIteration, if_neg h.not_gt, if_pos h, rotateRight, shr_eq_ediv, shr_eq_ediv]

theorem vectorIteration_of_zero {c : Cordic} (e : Nat × Int) (h : c.y = 0) : vectorIteration c e = c := by
  simp [vectorIteration, h]

/-! ### Rotation mode -/

/-- The registers are within `b.1` for `x` and `y`, and within `b.2` for the angle. -/
def Cordic.Within (c : Cordic) (b : Int × Int) : Prop := |c.x| ≤ b.1 ∧ |c.y| ≤ b.1 ∧ |c.z| ≤ b.2

/-- What one iteration in rotation mode makes of such bounds: the vector grows by its own shift at most, and the
angle overshoots 0 by at most the entry. -/
def rotateBound (b : Int × Int) (e : Nat × Int) : Int × Int :=
  (b.1 + (b.1 / 2 ^ e.1 + 1), max (b.2 - e.2) e.2)

theorem rotateIteration_within {c : Cordic} {b : Int × Int} (h : c.Within b) (e : Nat × Int) :
    (rotateIteration c e).Within (rotateBound b e) := by
  obtain ⟨x, y, z⟩ := h
  have shiftX := abs_le.1 (abs_ediv_two_pow_le x e.1)
  have shiftY := abs_le.1 (abs_ediv_two_pow_le y e.1)
  rw [abs_le] at x y z
  unfold Cordic.Within rotateBound
  simp only [abs_le]
  rcases lt_or_ge c.z 0 with neg | nonneg
  · rw [rotateIteration_of_neg e neg]
    dsimp only
    omega
  · rw [rotateIteration_of_nonneg e nonneg]
    dsimp only
    omega

theorem foldl_rotateIteration_within (entries : List (Nat × Int)) {c : Cordic} {b : Int × Int}
    (h : c.Within b) : (entries.foldl rotateIteration c).Within (entries.foldl rotateBound b) := by
  induction entries generalizing c b with
  | nil => exact h
  | cons e rest ih => exact ih (rotateIteration_within h e)

/-- The bounds at the start of a rotation by a reduced angle (R161, R162). -/
def rotateStartBound : Int × Int := (2608131496, 6746518852)

/-- The bounds stay below `2^34` through all iterations. -/
theorem foldl_rotateBound_lt {n : Nat} (range : n ≤ 32) :
    ((atanTable.take n).foldl rotateBound rotateStartBound).1 < 2 ^ 34 ∧
      ((atanTable.take n).foldl rotateBound rotateStartBound).2 < 2 ^ 34 := by
  interval_cases n <;> decide

/-- The angle that is left is within the last entry. -/
theorem foldl_rotateBound_angle : (atanTable.foldl rotateBound rotateStartBound).2 = 2 := by
  simp [atanTable, rotateBound, rotateStartBound]

/-- From 32 on, the first `n` iterations are all of them. -/
theorem take_atanTable (n : Nat) : atanTable.take n = atanTable.take (min n 32) := by
  rw [List.take_eq_take_iff]
  exact (min_assoc n 32 32).symm

section

variable {r : Int} (lo : -6746518852 ≤ r) (hi : r < 6746518853)
include lo hi

theorem rotateStart_within : (⟨2608131496, 0, r⟩ : Cordic).Within rotateStartBound :=
  ⟨(by decide : |(2608131496 : Int)| ≤ 2608131496), (by decide : |(0 : Int)| ≤ 2608131496),
    abs_le.2 ⟨lo, Int.le_of_lt_add_one hi⟩⟩

/-- On the reduced range, no iteration takes a register to `2^34`. -/
theorem foldl_rotateIteration_lt (n : Nat) :
    |((atanTable.take n).foldl rotateIteration ⟨2608131496, 0, r⟩).x| < 2 ^ 34 ∧
      |((atanTable.take n).foldl rotateIteration ⟨2608131496, 0, r⟩).y| < 2 ^ 34 ∧
      |((atanTable.take n).foldl rotateIteration ⟨2608131496, 0, r⟩).z| < 2 ^ 34 := by
  rw [take_atanTable]
  obtain ⟨vector, angle⟩ := foldl_rotateBound_lt (min_le_right n 32)
  obtain ⟨x, y, z⟩ := foldl_rotateIteration_within (atanTable.take (min n 32)) (rotateStart_within lo hi)
  exact ⟨x.trans_lt vector, y.trans_lt vector, z.trans_lt angle⟩

theorem rotate_lt : |(rotate r).x| < 2 ^ 34 ∧ |(rotate r).y| < 2 ^ 34 := by
  obtain ⟨x, y, -⟩ := foldl_rotateIteration_lt lo hi 32
  exact ⟨x, y⟩

theorem rotate_angle_le : |(rotate r).z| ≤ 2 := by
  obtain ⟨-, -, z⟩ := foldl_rotateIteration_within atanTable (rotateStart_within lo hi)
  rwa [foldl_rotateBound_angle] at z

end

/-- Settles O36: the rule's loop, and the bounds folded over the table. -/
theorem rotationStaysBelow34Bits : Obligations.RotationStaysBelow34Bits := by
  refine ⟨fun r => (ruleRotate_eq_registers r).symm, fun r lo hi => ⟨?_, ?_⟩⟩
  · rintro n c rfl
    exact foldl_rotateIteration_lt lo hi n
  · obtain ⟨x, y⟩ := rotate_lt lo hi
    exact ⟨x, y, rotate_angle_le lo hi⟩

/-- Sine and cosine of every integer operand are far from the bounds of a word. -/
theorem sinCosRaw_lt (a : Int) : |(sinCosRaw a).1| < 2 ^ 34 ∧ |(sinCosRaw a).2| < 2 ^ 34 := by
  obtain ⟨-, lo, hi⟩ := argumentReductionRange a
  obtain ⟨x, y⟩ := rotate_lt lo hi
  rw [sinCosRaw_eq_mul]
  generalize rotate (reduceAngle a) = c at x y
  split
  · rw [neg_one_mul, neg_one_mul, abs_neg, abs_neg]
    exact ⟨y, x⟩
  · rw [one_mul, one_mul]
    exact ⟨y, x⟩

/-- A value that small is read back from its word as it was. -/
theorem toInt_u64_of_abs_lt {v : Int} (small : |v| < 2 ^ 34) : (u64 v).toInt = v := by
  obtain ⟨lo, hi⟩ := abs_lt.1 small
  exact s64_u64 v (by unfold Config.minRaw; omega) (by unfold Config.maxRaw; omega)

/-- Settles O37: `SINCOS` writes the two values of the rotation, which fit. -/
theorem sineAndCosineFitTheWord : Obligations.SineAndCosineFitTheWord := by
  intro s
  obtain ⟨sine, cosine⟩ := sinCosRaw_lt s.opA
  have first : (u64 (sinCosRaw s.opA).1).toInt = (sinCosRaw s.opA).1 := toInt_u64_of_abs_lt sine
  have second : (u64 (sinCosRaw s.opA).2).toInt = (sinCosRaw s.opA).2 := toInt_u64_of_abs_lt cosine
  refine ⟨_, rfl, first, second, ?_, ?_⟩
  · exact first.symm ▸ sine
  · exact second.symm ▸ cosine

/-! ### Vectoring mode: the registers -/

/-- The vector is in the right half-plane, within `b.1` for `x` and `b.2` for `y`. -/
def Cordic.RightWithin (c : Cordic) (b : Int × Int) : Prop := 0 ≤ c.x ∧ c.x ≤ b.1 ∧ |c.y| ≤ b.2

/-- What one iteration in vectoring mode makes of such bounds: `x` grows by the shift of `y`, and `y` is turned
toward 0 by the shift of `x`. -/
def vectorBound (b : Int × Int) (e : Nat × Int) : Int × Int :=
  (b.1 + (b.2 / 2 ^ e.1 + 1), max b.2 (b.1 / 2 ^ e.1))

/-- In vectoring mode `x` never shrinks, because the shift is taken in the direction of `y`. -/
theorem vectorIteration_x_le (c : Cordic) (e : Nat × Int) : c.x ≤ (vectorIteration c e).x := by
  have pos : (0 : Int) < 2 ^ e.1 := by positivity
  rcases lt_trichotomy c.y 0 with neg | zero | up
  · have : c.y / 2 ^ e.1 < 0 := Int.ediv_neg_of_neg_of_pos neg pos
    rw [vectorIteration_of_neg e neg]
    dsimp only
    omega
  · rw [vectorIteration_of_zero e zero]
  · have : 0 ≤ c.y / 2 ^ e.1 := Int.ediv_nonneg up.le pos.le
    rw [vectorIteration_of_pos e up]
    dsimp only
    omega

theorem vectorIteration_rightWithin {c : Cordic} {b : Int × Int} (h : c.RightWithin b) (e : Nat × Int) :
    (vectorIteration c e).RightWithin (vectorBound b e) := by
  obtain ⟨right, x, y⟩ := h
  have pos : (0 : Int) < 2 ^ e.1 := by positivity
  have shiftY := abs_le.1 (abs_ediv_two_pow_le y e.1)
  have shiftX : c.x / 2 ^ e.1 ≤ b.1 / 2 ^ e.1 := Int.ediv_le_ediv pos x
  have shiftX_nonneg : 0 ≤ c.x / 2 ^ e.1 := Int.ediv_nonneg right pos.le
  refine ⟨right.trans (vectorIteration_x_le c e), ?_⟩
  unfold vectorBound
  rw [abs_le] at y ⊢
  rcases lt_trichotomy c.y 0 with neg | zero | up
  · rw [vectorIteration_of_neg e neg]
    dsimp only
    omega
  · rw [vectorIteration_of_zero e zero]
    omega
  · rw [vectorIteration_of_pos e up]
    dsimp only
    omega

theorem foldl_vectorIteration_rightWithin (entries : List (Nat × Int)) {c : Cordic} {b : Int × Int}
    (h : c.RightWithin b) :
    (entries.foldl vectorIteration c).RightWithin (entries.foldl vectorBound b) := by
  induction entries generalizing c b with
  | nil => exact h
  | cons e rest ih => exact ih (vectorIteration_rightWithin h e)

/-- From bounds of 64-bit operands the bounds stay below `2^65` through all iterations. -/
theorem foldl_vectorBound_lt {n : Nat} (range : n ≤ 32) :
    ((indexedFrom 0 (ruleAtan.take n)).foldl vectorBound (2 ^ 63, 2 ^ 63)).1 < 2 ^ 65 ∧
      ((indexedFrom 0 (ruleAtan.take n)).foldl vectorBound (2 ^ 63, 2 ^ 63)).2 < 2 ^ 65 := by
  interval_cases n <;> decide

theorem take_ruleAtan_min (n : Nat) : ruleAtan.take n = ruleAtan.take (min n 32) := by
  rw [List.take_eq_take_iff]
  exact (min_assoc n 32 32).symm

/-- The start of the loop is in the right half-plane (R170). -/
theorem vectorStart_right (y x : Int) : 0 ≤ (vectorStart y x).x := by
  unfold vectorStart
  split <;> dsimp only <;> omega

/-- Two 64-bit operands start the loop within `2^63`. -/
theorem vectorStart_rightWithin {y x : Int} (ylo : -2 ^ 63 ≤ y) (yhi : y < 2 ^ 63) (xlo : -2 ^ 63 ≤ x)
    (xhi : x < 2 ^ 63) : (vectorStart y x).RightWithin (2 ^ 63, 2 ^ 63) := by
  refine ⟨vectorStart_right y x, ?_⟩
  rw [abs_le]
  unfold vectorStart
  split <;> dsimp only <;> omega

/-! ### Vectoring mode: the residual -/

/-- After the iteration `i`, `k` of them with a rounding that counts, `y` is within the shift of `x` and `k`
units. -/
def Cordic.Residual (c : Cordic) (i k : Nat) : Prop := 0 ≤ c.x ∧ |c.y| * 2 ^ i ≤ c.x + k * 2 ^ i

/-- The first iteration adds the magnitude of `y` to `x`, and turns `y` by `x`. -/
theorem vectorIteration_zero_residual {c : Cordic} (right : 0 ≤ c.x) (t : Int) :
    (vectorIteration c (0, t)).Residual 0 0 := by
  refine ⟨right.trans (vectorIteration_x_le c _), ?_⟩
  rcases lt_trichotomy c.y 0 with neg | zero | up
  · rw [vectorIteration_of_neg _ neg]
    simp only [pow_zero, Int.ediv_one, mul_one, Nat.cast_zero, add_zero, abs_le]
    omega
  · rw [vectorIteration_of_zero _ zero, zero]
    simpa using right
  · rw [vectorIteration_of_pos _ up]
    simp only [pow_zero, Int.ediv_one, mul_one, Nat.cast_zero, add_zero, abs_le]
    omega

/-- The step of the residual on magnitudes: `v` turned toward 0 by the floored shift of `x`. -/
theorem abs_sub_ediv_mul_le {v x : Int} {i k : Nat} (positive : 0 ≤ v)
    (h : v * 2 ^ i ≤ x + k * 2 ^ i) :
    |v - x / 2 ^ (i + 1)| * 2 ^ (i + 1) ≤ x + (k + 1 : Nat) * 2 ^ (i + 1) := by
  have pos : (0 : Int) < 2 ^ (i + 1) := by positivity
  have below : x / 2 ^ (i + 1) * 2 ^ (i + 1) ≤ x := Int.ediv_mul_le x pos.ne'
  have above : x < (x / 2 ^ (i + 1) + 1) * 2 ^ (i + 1) := Int.lt_ediv_add_one_mul_self x pos
  have twice : (2 : Int) ^ (i + 1) = 2 * 2 ^ i := pow_succ' 2 i
  have units : (0 : Int) ≤ k * 2 ^ i := by positivity
  push_cast
  rcases le_total (x / 2 ^ (i + 1)) v with atLeast | less
  · rw [abs_of_nonneg (by omega)]
    linarith [twice, congrArg (v * ·) twice, congrArg ((k : Int) * ·) twice]
  · rw [abs_of_nonpos (by omega)]
    have : 0 ≤ v * 2 ^ (i + 1) := by positivity
    linarith [twice, congrArg ((k : Int) * ·) twice]

theorem vectorIteration_residual {c : Cordic} {i k : Nat} (h : c.Residual i k) (t : Int) :
    (vectorIteration c (i + 1, t)).Residual (i + 1) (k + 1) := by
  obtain ⟨right, residual⟩ := h
  have grows := vectorIteration_x_le c (i + 1, t)
  have turned := abs_sub_ediv_mul_le (abs_nonneg c.y) residual
  refine ⟨right.trans grows, ?_⟩
  rcases lt_trichotomy c.y 0 with neg | zero | up
  · have same : (vectorIteration c (i + 1, t)).y = -(|c.y| - c.x / 2 ^ (i + 1)) := by
      rw [vectorIteration_of_neg _ neg, abs_of_neg neg]
      ring
    rw [same, abs_neg]
    linarith
  · have same : (vectorIteration c (i + 1, t)).y = 0 := by rw [vectorIteration_of_zero _ zero, zero]
    have units : (0 : Int) ≤ (k + 1 : Nat) * 2 ^ (i + 1) := by positivity
    rw [same, abs_zero, zero_mul]
    linarith
  · have same : (vectorIteration c (i + 1, t)).y = |c.y| - c.x / 2 ^ (i + 1) := by
      rw [vectorIteration_of_pos _ up, abs_of_pos up]
    rw [same]
    linarith

theorem foldl_vectorIteration_residual (entries : List Int) {c : Cordic} {i k : Nat} (h : c.Residual i k) :
    ((indexedFrom (i + 1) entries).foldl vectorIteration c).Residual (i + entries.length)
      (k + entries.length) := by
  induction entries generalizing c i k with
  | nil => exact h
  | cons t rest ih =>
    rw [indexedFrom_cons, List.foldl_cons, List.length_cons, add_comm rest.length 1, ← add_assoc,
      ← add_assoc]
    exact ih (vectorIteration_residual h t)

/-- After all 32 iterations, 31 of them with a rounding that counts (R170). -/
theorem ruleVector_residual (y x : Int) :
    |(ruleVector 32 y x).2.1| * 2 ^ 31 ≤ (ruleVector 32 y x).1 + 31 * 2 ^ 31 := by
  have first := vectorIteration_zero_residual (vectorStart_right y x) 3373259426
  have residual := (foldl_vectorIteration_residual ruleAtan.tail first).2
  have count : ruleAtan.tail.length = 31 := rfl
  have table : ruleAtan = 3373259426 :: ruleAtan.tail := rfl
  rw [ruleVector_eq_registers, Cordic.registers_x, Cordic.registers_y, take_ruleAtan, table,
    indexedFrom_cons, List.foldl_cons]
  rw [count] at residual
  exact residual

/-! ### Vectoring mode: the angle -/

/-- The angle moves by at most the entries of the iterations. -/
theorem foldl_vectorIteration_angle (entries : List (Nat × Int)) (nonneg : ∀ e ∈ entries, 0 ≤ e.2)
    (c : Cordic) :
    |(entries.foldl vectorIteration c).z - c.z| ≤ (entries.map Prod.snd).sum := by
  induction entries generalizing c with
  | nil => simp
  | cons e rest ih =>
    have entry : 0 ≤ e.2 := nonneg e (by simp)
    have later := abs_le.1 (ih (fun d mem => nonneg d (by simp [mem])) (vectorIteration c e))
    have now : |(vectorIteration c e).z - c.z| ≤ e.2 := by
      rw [abs_le]
      rcases lt_trichotomy c.y 0 with neg | zero | up
      · rw [vectorIteration_of_neg e neg]
        dsimp only
        omega
      · rw [vectorIteration_of_zero e zero]
        omega
      · rw [vectorIteration_of_pos e up]
        dsimp only
        omega
    rw [abs_le] at now
    rw [List.foldl_cons, List.map_cons, List.sum_cons, abs_le]
    omega

/-- The angle from which the loop starts (R170). -/
theorem vectorStart_z (y x : Int) :
    (vectorStart y x).z = if 0 ≤ x then 0 else if 0 ≤ y then 13493037705 else -13493037705 := by
  unfold vectorStart
  by_cases right : 0 ≤ x
  · rw [if_pos right, if_neg (not_lt.2 right)]
  · rw [if_neg right, if_pos (not_le.1 right)]
    rfl

/-- The angle stays within the sum of the table from its start. -/
theorem abs_atan2F_sub_start_le (y x : Int) : |atan2F y x - (vectorStart y x).z| ≤ 7487359021 := by
  have sum : (atanTable.map Prod.snd).sum = 7487359021 := by decide
  have nonneg : ∀ e ∈ atanTable, 0 ≤ e.2 := by decide
  rw [atan2F]
  split
  next origin =>
    rw [origin.1, origin.2]
    decide
  next => exact (foldl_vectorIteration_angle atanTable nonneg _).trans sum.le

/-- Settles O40: the rule's loop; the bounds of its registers and of its angle, folded over the table; and the residual,
one unit for each iteration after the first. -/
theorem vectoringAngleIsBounded : Obligations.VectoringAngleIsBounded := by
  have angle (y x : Int) := vectorStart_z y x ▸ abs_atan2F_sub_start_le y x
  refine ⟨atan2F_eq_ruleAtan2, fun n y x ylo yhi xlo xhi => ?_, fun y x => ?_, angle, fun y x => ?_⟩
  · rw [ruleVector_eq_registers, Cordic.registers_x, Cordic.registers_y, take_ruleAtan_min]
    obtain ⟨ltX, ltY⟩ := foldl_vectorBound_lt (min_le_right n 32)
    obtain ⟨right, hx, hy⟩ := foldl_vectorIteration_rightWithin
      (indexedFrom 0 (ruleAtan.take (min n 32))) (vectorStart_rightWithin ylo yhi xlo xhi)
    rw [abs_of_nonneg right]
    exact ⟨hx.trans_lt ltX, hy.trans_lt ltY⟩
  · have residual := ruleVector_residual y x
    omega
  · have bound := abs_le.1 (angle y x)
    rw [abs_le]
    split_ifs at bound <;> omega

end Sys2Proof.Machine
end

section
/-! The exponential (41_evaluator.md R150 to R152). The loop uses its argument up because each entry of the table is at
least half the one before; the mantissa stays below `2^33` because each entry is the logarithm of the iteration's
factor up to one unit, so that the loop's growth is that of the real exponential, with the last 33 arguments below
`LN_2` evaluated one by one. -/

namespace Sys2Proof.Machine

open Sys2Proof

/-! ### The loop is the rule's -/

/-- The model's table is that of R150. -/
theorem ln1pTable_eq_indexedFrom : ln1pTable = indexedFrom 1 ruleLn1p := rfl

/-- The loop of R151 is the fold of the model's iteration. -/
theorem ruleExpLoop_eq_foldl (entries : List Int) (i : Nat) (z y : Int) :
    ruleExpLoop i entries z y = (indexedFrom i entries).foldl expIteration (z, y) := by
  induction entries generalizing i z y with
  | nil => rfl
  | cons l rest ih =>
    rw [ruleExpLoop, indexedFrom_cons, List.foldl_cons, expIteration]
    dsimp only
    split
    · rw [ih, shr_eq_ediv]
    · rw [ih]

/-- The mantissa is the rule's (R151), for every argument. -/
theorem expMantissa_eq_ruleExpMantissa (z : Int) : expMantissa z = ruleExpMantissa z := by
  rw [expMantissa, ln1pTable_eq_indexedFrom, ruleExpMantissa, ruleExpLoop_eq_foldl, shr_eq_ediv]
  rfl

/-! ### The residual -/

/-- Each entry is at least half of what may be left before it, and one unit may be left before the end. -/
def Halving : Int → List Int → Prop
  | left, [] => left = 1
  | left, l :: rest => left ≤ 2 * l ∧ Halving l rest

theorem ruleLn1p_halving : Halving 2977044472 ruleLn1p := by
  simp [Halving, ruleLn1p]

/-- A loop with such entries leaves nothing. -/
theorem ruleExpLoop_residual {entries : List Int} {left z : Int} (halving : Halving left entries)
    (nonneg : 0 ≤ z) (less : z < left) (i : Nat) (y : Int) : (ruleExpLoop i entries z y).1 = 0 := by
  induction entries generalizing left z i y with
  | nil =>
    rw [Halving] at halving
    rw [ruleExpLoop]
    omega
  | cons l rest ih =>
    obtain ⟨half, later⟩ := halving
    rw [ruleExpLoop]
    split
    · exact ih later (by omega) (by omega) _ _
    · exact ih later nonneg (by omega) _ _

/-! ### The growth of the mantissa -/

/-- The loop only adds to `y`. -/
theorem le_ruleExpLoop (entries : List Int) (i : Nat) (z : Int) {y : Int} (nonneg : 0 ≤ y) :
    y ≤ (ruleExpLoop i entries z y).2 := by
  induction entries generalizing i z y with
  | nil => exact le_refl y
  | cons l rest ih =>
    rw [ruleExpLoop]
    split
    · have added : 0 ≤ y / 2 ^ i := Int.ediv_nonneg nonneg (by positivity)
      exact (le_add_of_nonneg_right added).trans (ih _ _ (by omega))
    · exact ih _ _ nonneg

/-- The factor of the iteration is at most the exponential of its entry and one unit more. -/
def CoversFactor (e : Nat × Int) : Prop :=
  1 + 1 / 2 ^ e.1 ≤ Real.exp (((e.2 : ℝ) + 1) / 2 ^ 32)

/-- Twelve terms of the exponential series cover every factor of R150's table. -/
theorem ruleLn1p_coversFactor : ∀ e ∈ indexedFrom 1 ruleLn1p, CoversFactor e := by
  intro e mem
  have series := Real.sum_le_exp_of_nonneg (x := ((e.2 : ℝ) + 1) / 2 ^ 32) (n := 12)
  simp only [ruleLn1p, indexedFrom, List.zipIdx_cons, List.zipIdx_nil, List.map_cons, List.map_nil] at mem
  unfold CoversFactor
  fin_cases mem <;> refine le_trans ?_ (series (by norm_num)) <;>
    norm_num [Finset.sum_range_succ, Nat.factorial]

/-- One iteration that adds grows `y` at most by its factor. -/
theorem cast_add_ediv_le_mul (y : Int) (i : Nat) :
    ((y + y / 2 ^ i : Int) : ℝ) ≤ y * (1 + 1 / 2 ^ i) := by
  have floor : ((y / 2 ^ i : Int) : ℝ) ≤ y / 2 ^ i := by
    rw [le_div_iff₀ (by positivity)]
    exact_mod_cast Int.ediv_mul_le y (by positivity : (2 : Int) ^ i ≠ 0)
  push_cast at floor ⊢
  rw [mul_add, mul_one, mul_one_div]
  linarith

/-- With such entries the loop grows `y` at most as the exponential of the argument and a unit for each
iteration. -/
theorem ruleExpLoop_le_mul_exp {entries : List Int} {i : Nat}
    (covers : ∀ e ∈ indexedFrom i entries, CoversFactor e) {z y : Int} (argument : 0 ≤ z) (nonneg : 0 ≤ y) :
    ((ruleExpLoop i entries z y).2 : ℝ) ≤ y * Real.exp ((z + entries.length) / 2 ^ 32) := by
  induction entries generalizing i z y with
  | nil =>
    have realNonneg : (0 : ℝ) ≤ y := by exact_mod_cast nonneg
    have realArgument : (0 : ℝ) ≤ z := by exact_mod_cast argument
    exact le_mul_of_one_le_right realNonneg (Real.one_le_exp (by positivity))
  | cons l rest ih =>
    rw [indexedFrom_cons, List.forall_mem_cons] at covers
    obtain ⟨factor, later⟩ := covers
    have realNonneg : (0 : ℝ) ≤ y := by exact_mod_cast nonneg
    rw [ruleExpLoop, List.length_cons]
    split
    · have added : 0 ≤ y / 2 ^ i := Int.ediv_nonneg nonneg (by positivity)
      calc _ ≤ ((y + y / 2 ^ i : Int) : ℝ) * Real.exp (((z - l : Int) + rest.length) / 2 ^ 32) :=
            ih later (by omega) (by omega)
        _ ≤ (y * Real.exp ((l + 1) / 2 ^ 32)) * Real.exp (((z - l : Int) + rest.length) / 2 ^ 32) := by
            gcongr
            exact (cast_add_ediv_le_mul y i).trans (mul_le_mul_of_nonneg_left factor realNonneg)
        _ = y * Real.exp ((z + (rest.length + 1 : Nat)) / 2 ^ 32) := by
            rw [mul_assoc, ← Real.exp_add]
            push_cast
            ring_nf
    · refine (ih later argument nonneg).trans ?_
      gcongr
      linarith

/-- Up to 33 units below `LN_2` the exponential leaves room for every iteration's unit. -/
theorem ruleExpLoop_lt_of_lt {z : Int} (nonneg : 0 ≤ z) (less : z < 2977044439) :
    (ruleExpLoop 1 ruleLn1p z (2 ^ 32)).2 < 2 ^ 33 := by
  have grows := ruleExpLoop_le_mul_exp ruleLn1p_coversFactor nonneg (y := 2 ^ 32) (by norm_num)
  have exponent : ((z : ℝ) + ruleLn1p.length) / 2 ^ 32 < Real.log 2 := by
    have count : ruleLn1p.length = 32 := rfl
    have bound : (z : ℝ) ≤ 2977044438 := by exact_mod_cast Int.le_of_lt_add_one less
    rw [count, div_lt_iff₀ (by positivity)]
    have := Real.log_two_gt_d9
    push_cast
    linarith
  have doubles : Real.exp (((z : ℝ) + ruleLn1p.length) / 2 ^ 32) < 2 :=
    (Real.exp_lt_exp.2 exponent).trans_eq (Real.exp_log two_pos)
  generalize (ruleExpLoop 1 ruleLn1p z (2 ^ 32)).2 = y at grows ⊢
  have real : (y : ℝ) < 2 ^ 33 := by
    push_cast at grows
    linarith
  exact_mod_cast real

/-- The last arguments below `LN_2`, one by one. -/
theorem ruleExpLoop_lt_of_ge {z : Int} (atLeast : 2977044439 ≤ z) (less : z < 2977044472) :
    (ruleExpLoop 1 ruleLn1p z (2 ^ 32)).2 < 2 ^ 33 := by
  interval_cases z <;> decide

/-! ### The mantissa -/

section

variable {z : Int} (nonneg : 0 ≤ z) (less : z < 2977044472)
include nonneg less

/-- The mantissa of a reduced argument is the `y` of the loop, since nothing is left to correct (R151). -/
theorem ruleExpLoop_eq_mantissa : ruleExpLoop 1 ruleLn1p z (2 ^ 32) = (0, expMantissa z) := by
  have residual := ruleExpLoop_residual ruleLn1p_halving nonneg less 1 (2 ^ 32)
  rw [expMantissa_eq_ruleExpMantissa, ruleExpMantissa, residual, mul_zero, Int.zero_ediv, add_zero,
    ← residual]

theorem expMantissa_range : 2 ^ 32 ≤ expMantissa z ∧ expMantissa z < 2 ^ 33 := by
  have grows : 2 ^ 32 ≤ (ruleExpLoop 1 ruleLn1p z (2 ^ 32)).2 := le_ruleExpLoop _ _ _ (by norm_num)
  have bound : (ruleExpLoop 1 ruleLn1p z (2 ^ 32)).2 < 2 ^ 33 := by
    rcases lt_or_ge z 2977044439 with low | high
    · exact ruleExpLoop_lt_of_lt nonneg low
    · exact ruleExpLoop_lt_of_ge high less
  rw [ruleExpLoop_eq_mantissa nonneg less] at grows bound
  exact ⟨grows, bound⟩

end

/-! ### The final shift -/

theorem clampRaw_of_ge {v : Int} (h : 9223372036854775807 ≤ v) : clampRaw v = 9223372036854775807 := by
  unfold clampRaw
  omega

/-- A count above 128 saturates as 128 does, to the left, and leaves nothing, as 128 does, to the right (log
entry 9). -/
theorem expScale_eq {m : Int} (lo : 2 ^ 32 ≤ m) (hi : m < 2 ^ 33) (k : Int) :
    expScale m k = if 0 ≤ k then clampRaw (m * 2 ^ k.toNat) else m / 2 ^ (-k).toNat := by
  unfold expScale
  split
  next left =>
    rw [sat64_eq_clampRaw]
    rcases le_total k.toNat 128 with near | far
    · rw [min_eq_left near]
    · have large : (2 : Int) ^ 128 ≤ 2 ^ k.toNat := pow_le_pow_right₀ (by norm_num) far
      rw [min_eq_right far, clampRaw_of_ge (by omega), clampRaw_of_ge (by nlinarith)]
  next right =>
    rw [shr_eq_ediv]
    rcases le_total (-k).toNat 128 with near | far
    · rw [min_eq_left near]
    · have large : (2 : Int) ^ 128 ≤ 2 ^ (-k).toNat := pow_le_pow_right₀ (by norm_num) far
      rw [min_eq_right far, Int.ediv_eq_zero_of_lt (by omega) (by omega),
        Int.ediv_eq_zero_of_lt (by omega) (by omega)]

/-- The mantissa of the reduced argument of any operand is in its range. -/
theorem expMantissa_emod_range (a : Int) :
    2 ^ 32 ≤ expMantissa (a % 2977044472) ∧ expMantissa (a % 2977044472) < 2 ^ 33 :=
  expMantissa_range (Int.emod_nonneg a (by norm_num)) (Int.emod_lt_of_pos a (by norm_num))

/-- `EXPF` with the rule's unbounded shift (R151). -/
theorem expF_eq (a : Int) :
    expF a = if 0 ≤ a / 2977044472 then
        clampRaw (expMantissa (a % 2977044472) * 2 ^ (a / 2977044472).toNat)
      else expMantissa (a % 2977044472) / 2 ^ (-(a / 2977044472)).toNat := by
  obtain ⟨lo, hi⟩ := expMantissa_emod_range a
  have quotient : floorDiv a ln2 = a / 2977044472 := floorDiv_eq_ediv a _ (by decide)
  have reduced : a - a / 2977044472 * ln2 = a % 2977044472 := by
    unfold ln2
    omega
  rw [← expScale_eq lo hi, expF, quotient, reduced]

/-- Settles O31: the loops agree for every argument, and the mantissas of reduced arguments are far from where the
bounded shift would show. -/
theorem expShiftIsTheRulesShift : Obligations.ExpShiftIsTheRulesShift := by
  refine ⟨expMantissa_eq_ruleExpMantissa, fun a => ?_⟩
  rw [← expMantissa_eq_ruleExpMantissa]
  exact expF_eq a

/-! ### Saturation and underflow -/

/-- From the exponent 31 on the result saturates (R151). -/
theorem expF_of_ge {a : Int} (h : 31 ≤ a / 2977044472) : expF a = 9223372036854775807 := by
  obtain ⟨lo, -⟩ := expMantissa_emod_range a
  have large : (2 : Int) ^ 31 ≤ 2 ^ (a / 2977044472).toNat := pow_le_pow_right₀ (by norm_num) (by omega)
  rw [expF_eq, if_pos (by omega), clampRaw_of_ge (by nlinarith)]

/-- Up to the exponent -33 nothing is left (R151). -/
theorem expF_of_le {a : Int} (h : a / 2977044472 ≤ -33) : expF a = 0 := by
  obtain ⟨lo, hi⟩ := expMantissa_emod_range a
  have large : (2 : Int) ^ 33 ≤ 2 ^ (-(a / 2977044472)).toNat := pow_le_pow_right₀ (by norm_num) (by omega)
  rw [expF_eq, if_neg (by omega), Int.ediv_eq_zero_of_lt (by omega) (by omega)]

/-- Between them the result is positive and below `MAX`. -/
theorem expF_of_between {a : Int} (least : -32 ≤ a / 2977044472) (most : a / 2977044472 ≤ 30) :
    0 < expF a ∧ expF a < 9223372036854775807 := by
  obtain ⟨lo, hi⟩ := expMantissa_emod_range a
  rw [expF_eq]
  generalize expMantissa (a % 2977044472) = m at lo hi
  generalize a / 2977044472 = k at least most
  split
  next left =>
    have one : (1 : Int) ≤ 2 ^ k.toNat := one_le_pow₀ (by norm_num)
    have large : (2 : Int) ^ k.toNat ≤ 2 ^ 30 := pow_le_pow_right₀ (by norm_num) (by omega)
    have product : m * 2 ^ k.toNat ≤ (2 ^ 33 - 1) * 2 ^ 30 := by nlinarith
    have positive : 0 < m * 2 ^ k.toNat := by positivity
    rw [clampRaw_of_range (by omega) (by omega)]
    exact ⟨positive, by omega⟩
  next right =>
    have large : (2 : Int) ^ (-k).toNat ≤ 2 ^ 32 := pow_le_pow_right₀ (by norm_num) (by omega)
    have pos : (0 : Int) < 2 ^ (-k).toNat := by positivity
    have smaller : m / 2 ^ (-k).toNat ≤ m := Int.ediv_le_self _ (by omega)
    have positive : 1 ≤ m / 2 ^ (-k).toNat := (Int.le_ediv_iff_mul_le pos).2 (by omega)
    omega

theorem expF_eq_max_iff (a : Int) : expF a = 9223372036854775807 ↔ 31 ≤ a / 2977044472 := by
  refine ⟨fun max => ?_, expF_of_ge⟩
  by_contra below
  rcases le_or_gt (a / 2977044472) (-33) with low | high
  · rw [expF_of_le low] at max
    omega
  · have := expF_of_between high (by omega)
    omega

theorem expF_eq_zero_iff (a : Int) : expF a = 0 ↔ a / 2977044472 ≤ -33 := by
  refine ⟨fun zero => ?_, expF_of_le⟩
  by_contra above
  rcases le_or_gt 31 (a / 2977044472) with high | low
  · rw [expF_of_ge high] at zero
    omega
  · have := expF_of_between (by omega) (Int.le_of_lt_add_one low)
    omega

/-- Settles O32: the range of the mantissa, and the exponents of saturation and underflow as operands. -/
theorem expMantissaBoundsAndThresholds : Obligations.ExpMantissaBoundsAndThresholds := by
  refine ⟨fun z nonneg less => ?_, fun a => ?_, fun a => ?_⟩
  · obtain ⟨lo, hi⟩ := expMantissa_range nonneg less
    exact ⟨lo, hi, ruleExpLoop_eq_mantissa nonneg less⟩
  · rw [expF_eq_max_iff]
    omega
  · have threshold : (0xFFFFFFE9D1BD00FF#64).toInt = -32 * 2977044472 - 1 := by decide
    rw [expF_eq_zero_iff, threshold]
    omega

/-- Settles O33: the exponents of saturation and underflow. -/
theorem expSaturatesAndUnderflows : Obligations.ExpSaturatesAndUnderflows :=
  fun _ => ⟨expF_of_ge, fun h => expF_of_le (by omega), fun h => expF_of_le (by omega)⟩

/-- `EXPF` is never negative and never above `MAX` (R152). -/
theorem expF_range (a : Int) : 0 ≤ expF a ∧ expF a ≤ 9223372036854775807 := by
  rcases le_or_gt 31 (a / 2977044472) with high | notHigh
  · rw [expF_of_ge high]
    decide
  rcases le_or_gt (a / 2977044472) (-33) with low | notLow
  · rw [expF_of_le low]
    decide
  · obtain ⟨positive, below⟩ := expF_of_between notLow (Int.le_of_lt_add_one notHigh)
    exact ⟨positive.le, below.le⟩

/-- Settles O30: `EXP` completes with `EXPF` of the register. -/
theorem expCommand : Obligations.ExpCommand :=
  ⟨rfl, fun _ latch => congrArg _ (completeValue_of_latchAgrees_unary latch expF), expF_range⟩

end Sys2Proof.Machine
end

section
/-! Floats out of scalars and back (43_convert.md R223, R247 to R249). First the shortening of a magnitude and the
significand that it gives; then the fields of an image and what the image stands for, in every format with room for
the exponents of a scalar; then the commands. -/

namespace Sys2Proof.Machine

open Sys2Proof

/-! ### Shortening a magnitude -/

/-- The number of bits is Mathlib's. -/
theorem bitLength_eq_size (m : Nat) : bitLength m = Nat.size m := by
  unfold bitLength
  split
  next zero => rw [zero, Nat.size_zero]
  next nonzero =>
    exact le_antisymm (Nat.lt_size.2 (Nat.log2_self_le nonzero)) (Nat.size_le.2 Nat.lt_log2_self)

/-- The shortening rounds down or up, by the remainder and the parity of the quotient (R223). -/
theorem roundShift_cases (m sh : Nat) :
    (roundShift m sh = m / 2 ^ sh + 1 ∧
      (2 ^ sh < 2 * (m % 2 ^ sh) ∨ (2 * (m % 2 ^ sh) = 2 ^ sh ∧ m / 2 ^ sh % 2 = 1))) ∨
    (roundShift m sh = m / 2 ^ sh ∧
      (2 * (m % 2 ^ sh) < 2 ^ sh ∨ (2 * (m % 2 ^ sh) = 2 ^ sh ∧ m / 2 ^ sh % 2 = 0))) := by
  unfold roundShift
  dsimp only
  split
  next up => exact .inl ⟨rfl, up⟩
  next down => exact .inr ⟨rfl, by omega⟩

/-- Settles O51: the distance to the rounded multiple is the remainder or what it lacks of `2^sh`, and the case
of equality is the tie. -/
theorem roundShiftIsNearestEven : Obligations.RoundShiftIsNearestEven := by
  intro m sh
  have division : 2 ^ sh * (m / 2 ^ sh) + m % 2 ^ sh = m := Nat.div_add_mod m (2 ^ sh)
  have rest : m % 2 ^ sh < 2 ^ sh := Nat.mod_lt m (by positivity)
  rcases roundShift_cases m sh with ⟨up, remainder⟩ | ⟨down, remainder⟩
  · have distance : (m : Int) - roundShift m sh * 2 ^ sh = -((2 ^ sh - m % 2 ^ sh : Nat) : Int) := by
      rw [up]
      push_cast [Nat.cast_sub rest.le]
      have : (2 : Int) ^ sh * (m / 2 ^ sh) + m % 2 ^ sh = m := by exact_mod_cast division
      linarith
    rw [distance, abs_neg, Nat.abs_cast, up]
    norm_cast
    omega
  · have distance : (m : Int) - roundShift m sh * 2 ^ sh = ((m % 2 ^ sh : Nat) : Int) := by
      rw [down]
      push_cast
      have : (2 : Int) ^ sh * (m / 2 ^ sh) + m % 2 ^ sh = m := by exact_mod_cast division
      linarith
    rw [distance, Nat.abs_cast, down]
    norm_cast
    omega

/-- A multiple of `2^sh` is shortened exactly. -/
theorem roundShift_mul_two_pow (n sh : Nat) : roundShift (n * 2 ^ sh) sh = n := by
  have pos : 0 < 2 ^ sh := by positivity
  have rounding := roundShift_cases (n * 2 ^ sh) sh
  rw [Nat.mul_mod_left, Nat.mul_div_cancel n pos] at rounding
  omega

/-- Shortening does not pass a multiple of `2^sh`. -/
theorem roundShift_le {m sh c : Nat} (h : m ≤ c * 2 ^ sh) : roundShift m sh ≤ c := by
  have pos : 0 < 2 ^ sh := by positivity
  have division : 2 ^ sh * (m / 2 ^ sh) + m % 2 ^ sh = m := Nat.div_add_mod m (2 ^ sh)
  rcases roundShift_cases m sh with ⟨up, remainder⟩ | ⟨down, -⟩
  · have less : m / 2 ^ sh < c := by
      by_contra notLess
      have : c * 2 ^ sh ≤ m / 2 ^ sh * 2 ^ sh := Nat.mul_le_mul_right _ (not_lt.1 notLess)
      rw [mul_comm] at division
      omega
    omega
  · rw [down]
    exact Nat.div_le_of_le_mul (by rwa [mul_comm])

/-- Shortening does not fall below the quotient. -/
theorem div_le_roundShift (m sh : Nat) : m / 2 ^ sh ≤ roundShift m sh := by
  rcases roundShift_cases m sh with ⟨up, -⟩ | ⟨down, -⟩ <;> omega

/-- A magnitude fits into the bits that are kept and those that are cut. -/
theorem lt_two_pow_mul_of_size (p m : Nat) : m < 2 ^ p * 2 ^ (Nat.size m - p) := by
  rw [← pow_add]
  exact (Nat.lt_size_self m).trans_le (Nat.pow_le_pow_right (by decide) (by omega))

/-! ### The significand -/

/-- The significand and the shift of R223 have the value of the shortened magnitude, at most `p` bits, and together at
most one bit more than the magnitude. -/
theorem roundSignificand_spec {p m : Nat} (precision : 0 < p) (positive : 0 < m) {q sh : Nat}
    (h : roundSignificand p m = (q, sh)) :
    0 < q ∧ q < 2 ^ p ∧ q * 2 ^ sh = roundShift m (Nat.size m - p) * 2 ^ (Nat.size m - p) ∧
      Nat.size q + sh ≤ Nat.size m + 1 := by
  rw [roundSignificand, bitLength_eq_size] at h
  split at h
  next short =>
    cases h
    have kept := roundShift_mul_two_pow m 0
    rw [pow_zero, mul_one] at kept
    refine ⟨positive, Nat.size_le.1 short, ?_, by omega⟩
    rw [Nat.sub_eq_zero_of_le short, kept]
  next long =>
    dsimp only at h
    have least : 2 ^ (p - 1) ≤ roundShift m (Nat.size m - p) := by
      refine le_trans ?_ (div_le_roundShift m _)
      rw [Nat.le_div_iff_mul_le (by positivity), ← pow_add]
      exact Nat.lt_size.1 (by omega)
    have most := roundShift_le (lt_two_pow_mul_of_size p m).le
    have one : 0 < 2 ^ (p - 1) := by positivity
    split at h
    next carry =>
      cases h
      have double : 2 ^ p = 2 ^ (p - 1) * 2 := by rw [← pow_succ, Nat.sub_add_cancel precision]
      refine ⟨one, by omega, ?_, ?_⟩
      · rw [carry, double, pow_succ]
        ring
      · rw [Nat.size_pow]
        omega
    next fits =>
      cases h
      have few : roundShift m (Nat.size m - p) < 2 ^ p := lt_of_le_of_ne most fits
      have := Nat.size_le.2 few
      exact ⟨one.trans_le least, few, rfl, by omega⟩

/-- A significand brought to `p` bits starts with its leading 1. -/
theorem size_shift_range {M q : Nat} (positive : 0 < q) (bits : q < 2 ^ (M + 1)) :
    2 ^ M ≤ q * 2 ^ (M + 1 - Nat.size q) ∧ q * 2 ^ (M + 1 - Nat.size q) < 2 ^ (M + 1) := by
  have few : Nat.size q ≤ M + 1 := Nat.size_le.2 bits
  have nonempty : 0 < Nat.size q := Nat.size_pos.2 positive
  have lower : 2 ^ (Nat.size q - 1) ≤ q := Nat.lt_size.1 (by omega)
  constructor
  · calc 2 ^ M = 2 ^ (Nat.size q - 1) * 2 ^ (M + 1 - Nat.size q) := by
          rw [← pow_add]
          exact congrArg _ (by omega)
      _ ≤ _ := Nat.mul_le_mul_right _ lower
  · calc _ < 2 ^ Nat.size q * 2 ^ (M + 1 - Nat.size q) :=
          Nat.mul_lt_mul_of_pos_right (Nat.lt_size_self q) (by positivity)
      _ = 2 ^ (M + 1) := by
          rw [← pow_add]
          exact congrArg _ (by omega)

/-! ### The fields of an image -/

/-- The fields of an image can be read back from it (R221). -/
theorem image_fields {E M sign e f : Nat} (exponent : e < 2 ^ E) (fraction : f < 2 ^ M) :
    (sign * 2 ^ (M + E) + e * 2 ^ M + f) % 2 ^ M = f ∧
      (sign * 2 ^ (M + E) + e * 2 ^ M + f) / 2 ^ M % 2 ^ E = e ∧
      (sign * 2 ^ (M + E) + e * 2 ^ M + f) / 2 ^ (M + E) = sign := by
  have joined : sign * 2 ^ (M + E) + e * 2 ^ M + f = f + 2 ^ M * (e + 2 ^ E * sign) := by ring
  have high : (f + 2 ^ M * (e + 2 ^ E * sign)) / 2 ^ M = e + 2 ^ E * sign := by
    rw [Nat.add_mul_div_left _ _ (by positivity), Nat.div_eq_of_lt fraction, zero_add]
  rw [joined]
  refine ⟨?_, ?_, ?_⟩
  · rw [Nat.add_mul_mod_self_left, Nat.mod_eq_of_lt fraction]
  · rw [high, Nat.add_mul_mod_self_left, Nat.mod_eq_of_lt exponent]
  · rw [pow_add, ← Nat.div_div_eq_div_mul, high, Nat.add_mul_div_left _ _ (by positivity),
      Nat.div_eq_of_lt exponent, zero_add]

/-- The format has room for the exponents of every scalar, as a normal number (R223). -/
def FloatFormat.HoldsScalars (fmt : FloatFormat) : Prop := 33 ≤ fmt.bias ∧ fmt.bias + 33 < 2 ^ fmt.expBits

theorem binary32_holdsScalars : binary32.HoldsScalars := by
  unfold FloatFormat.HoldsScalars binary32
  norm_num

theorem binary64_holdsScalars : binary64.HoldsScalars := by
  unfold FloatFormat.HoldsScalars binary64
  norm_num

/-- The magnitude of `a`, shortened to `p` bits. -/
def nearestMagnitude (p : Nat) (a : Int) : Nat :=
  roundShift a.natAbs (Nat.size a.natAbs - p) * 2 ^ (Nat.size a.natAbs - p)

theorem nearestOfBits_eq_sign_mul (p : Nat) (a : Int) :
    nearestOfBits p a = Int.sign a * (nearestMagnitude p a : Int) := rfl

/-- The image of a nonzero scalar: its sign, the biased exponent of a normal number, and a fraction that with the
hidden 1 and the exponent has the value of the shortened magnitude in raw units (R223). -/
theorem floatEncode_fields {fmt : FloatFormat} (room : fmt.HoldsScalars) {a : Int} (nonzero : a ≠ 0)
    (scalar : a.natAbs ≤ 2 ^ 63) :
    ∃ e f : Nat,
      floatEncode fmt a =
        (if a < 0 then 1 else 0) * 2 ^ (fmt.fracBits + fmt.expBits) + e * 2 ^ fmt.fracBits + f ∧
      f < 2 ^ fmt.fracBits ∧ 0 < e ∧ e < 2 ^ fmt.expBits - 1 ∧
      ((2 ^ fmt.fracBits + f : Nat) : Rat) *
          (2 : Rat) ^ ((e : Int) - (fmt.bias : Int) - (fmt.fracBits : Int) + 32) =
        (nearestMagnitude (fmt.fracBits + 1) a : Rat) := by
  obtain ⟨E, M, bias⟩ := fmt
  obtain ⟨low, high⟩ := room
  dsimp only at low high ⊢
  obtain ⟨⟨q, sh⟩, significand⟩ : ∃ s, s = roundSignificand (M + 1) a.natAbs := ⟨_, rfl⟩
  obtain ⟨positive, bits, value, size⟩ :=
    roundSignificand_spec (Nat.succ_pos M) (Int.natAbs_pos.2 nonzero) significand.symm
  obtain ⟨leading, below⟩ := size_shift_range positive bits
  have few : Nat.size q ≤ M + 1 := Nat.size_le.2 bits
  have nonempty : 0 < Nat.size q := Nat.size_pos.2 positive
  have width : Nat.size a.natAbs ≤ 64 := Nat.size_le.2 (scalar.trans_lt (by norm_num))
  have double : 2 ^ (M + 1) = 2 ^ M * 2 := pow_succ 2 M
  refine ⟨Nat.size q + sh + bias - 33, q * 2 ^ (M + 1 - Nat.size q) - 2 ^ M, ?_, by omega, by omega,
    by omega, ?_⟩
  · rw [floatEncode, if_neg nonzero]
    dsimp only
    rw [← significand]
    dsimp only
    rw [bitLength_eq_size]
  · have exponent : (((Nat.size q + sh + bias - 33 : Nat) : Int) - bias - M + 32) =
        (sh : Int) - ((M + 1 - Nat.size q : Nat) : Int) := by omega
    rw [Nat.add_sub_cancel' leading, exponent, nearestMagnitude, ← value, zpow_sub₀ two_ne_zero,
      zpow_natCast, zpow_natCast]
    push_cast
    field_simp

/-- The sign that the sign bit of a nonzero scalar's image stands for. -/
theorem ite_sign_bit {R : Type} [One R] [Neg R] (a : Int) :
    (if (if a < 0 then 1 else 0) % 2 = 1 then (-1 : R) else 1) = if a < 0 then -1 else 1 := by
  by_cases neg : a < 0 <;> simp [neg]

theorem sign_eq_ite {a : Int} (nonzero : a ≠ 0) : Int.sign a = if a < 0 then -1 else 1 := by
  split
  next neg => exact Int.sign_eq_neg_one_of_neg neg
  next notNeg => exact Int.sign_eq_one_of_pos (by omega)

section

variable {fmt : FloatFormat} (room : fmt.HoldsScalars) {a : Int} (scalar : a.natAbs ≤ 2 ^ 63)
include room scalar

/-- An image has a sign bit, the exponent and the fraction, and no more bits. -/
theorem floatEncode_lt : floatEncode fmt a < 2 ^ (fmt.fracBits + fmt.expBits + 1) := by
  by_cases zero : a = 0
  · rw [zero]
    exact Nat.two_pow_pos _
  obtain ⟨e, f, image, fraction, -, exponent, -⟩ := floatEncode_fields room zero scalar
  have sign : (if a < 0 then 1 else 0) * 2 ^ (fmt.fracBits + fmt.expBits) ≤
      2 ^ (fmt.fracBits + fmt.expBits) := by
    split
    · rw [one_mul]
    · rw [zero_mul]
      exact Nat.zero_le _
  have fields : (e + 1) * 2 ^ fmt.fracBits ≤ 2 ^ (fmt.fracBits + fmt.expBits) := by
    rw [pow_add, mul_comm]
    exact Nat.mul_le_mul_left _ (by omega)
  rw [image, pow_succ]
  rw [add_mul, one_mul] at fields
  omega

/-- The image of a nonzero scalar is that of a normal number. -/
theorem imageNormal_floatEncode (nonzero : a ≠ 0) :
    imageNormal fmt.expBits fmt.fracBits (floatEncode fmt a) := by
  obtain ⟨e, f, image, fraction, normal, exponent, -⟩ := floatEncode_fields room nonzero scalar
  obtain ⟨-, exponent_eq, -⟩ := image_fields (sign := if a < 0 then 1 else 0)
    (show e < 2 ^ fmt.expBits by omega) fraction
  rw [imageNormal, image, exponent_eq]
  exact ⟨normal.ne', exponent.ne⟩

/-- The exact value of an image, in raw units, is the shortened scalar (R223). -/
theorem imageRational_floatEncode :
    imageRational fmt.expBits fmt.fracBits fmt.bias (floatEncode fmt a) * 2 ^ 32 =
      (nearestOfBits (fmt.fracBits + 1) a : Rat) := by
  by_cases zero : a = 0
  · subst zero
    simp [imageRational, floatEncode, nearestOfBits]
  obtain ⟨e, f, image, fraction, normal, exponent, value⟩ := floatEncode_fields room zero scalar
  obtain ⟨fraction_eq, exponent_eq, sign_eq⟩ := image_fields (sign := if a < 0 then 1 else 0)
    (show e < 2 ^ fmt.expBits by omega) fraction
  unfold imageRational
  dsimp only
  rw [image, fraction_eq, exponent_eq, sign_eq, ite_sign_bit, if_neg normal.ne',
    nearestOfBits_eq_sign_mul, sign_eq_ite zero]
  have units : (2 : Rat) ^ (32 : Int) = 2 ^ 32 := zpow_natCast 2 32
  rw [zpow_add₀ two_ne_zero, units] at value
  rw [Int.cast_mul, Int.cast_natCast, ← value]
  push_cast
  ring

/-- An image read back is the shortened scalar, saturated (R222, R223). -/
theorem floatToFix_floatDecode_floatEncode :
    floatToFix (floatDecode fmt (floatEncode fmt a)) = clampRaw (nearestOfBits (fmt.fracBits + 1) a) := by
  rw [floatToFix_floatDecode]
  by_cases zero : a = 0
  · have special : 0 ≠ 2 ^ fmt.expBits - 1 := by
      obtain ⟨-, high⟩ := room
      omega
    subst zero
    simp [scalarOfImage, floatEncode, nearestOfBits, special]
  obtain ⟨e, f, image, fraction, normal, exponent, value⟩ := floatEncode_fields room zero scalar
  obtain ⟨fraction_eq, exponent_eq, sign_eq⟩ := image_fields (sign := if a < 0 then 1 else 0)
    (show e < 2 ^ fmt.expBits by omega) fraction
  unfold scalarOfImage
  dsimp only
  rw [image, fraction_eq, exponent_eq, sign_eq, ite_sign_bit, if_neg exponent.ne, if_neg normal.ne',
    value, Int.floor_natCast, nearestOfBits_eq_sign_mul, sign_eq_ite zero]

end

/-! ### What the shortening keeps -/

/-- Shortening a magnitude changes nothing exactly if the bits cut off are 0. -/
theorem roundShift_mul_eq_iff (m sh : Nat) : roundShift m sh * 2 ^ sh = m ↔ 2 ^ sh ∣ m := by
  rw [dvd_iff_exists_eq_mul_left]
  constructor
  · exact fun same => ⟨_, same.symm⟩
  · rintro ⟨n, rfl⟩
    rw [roundShift_mul_two_pow]

/-- The shortened scalar is the scalar exactly if its magnitude is kept. -/
theorem nearestOfBits_eq_iff (p : Nat) (a : Int) :
    nearestOfBits p a = a ↔ 2 ^ (Nat.size a.natAbs - p) ∣ a.natAbs := by
  rw [← roundShift_mul_eq_iff, ← nearestMagnitude, nearestOfBits_eq_sign_mul]
  constructor
  · intro same
    rcases eq_or_ne a 0 with rfl | nonzero
    · simp [nearestMagnitude, roundShift]
    · have magnitudes := congrArg Int.natAbs same
      rwa [Int.natAbs_mul, Int.natAbs_sign_of_ne_zero nonzero, one_mul, Int.natAbs_natCast] at magnitudes
  · intro kept
    rw [kept, Int.sign_mul_natAbs]

/-- A multiple of a power of two whose factor fits into `p` bits is one whose bits beyond the first `p` are 0
(R249). -/
theorem significantBits_iff (p : Nat) (a : Int) :
    significantBits p a ↔ 2 ^ (Nat.size a.natAbs - p) ∣ a.natAbs := by
  constructor
  · rintro ⟨m, k, bound, rfl⟩
    have factor : m.natAbs < 2 ^ p := by
      rw [Int.abs_eq_natAbs] at bound
      exact_mod_cast bound
    have magnitude : (m * 2 ^ k).natAbs = m.natAbs * 2 ^ k := by
      rw [Int.natAbs_mul, Int.natAbs_pow]
      rfl
    have size : Nat.size (m * 2 ^ k).natAbs ≤ p + k := by
      rw [Nat.size_le, magnitude, pow_add]
      exact Nat.mul_lt_mul_of_pos_right factor (by positivity)
    rw [magnitude] at size ⊢
    exact (pow_dvd_pow 2 (by omega)).trans (Nat.dvd_mul_left _ _)
  · intro divides
    obtain ⟨n, magnitude⟩ := dvd_iff_exists_eq_mul_left.1 divides
    have bound := lt_two_pow_mul_of_size p a.natAbs
    generalize Nat.size a.natAbs - p = k at magnitude bound
    rw [magnitude] at bound
    have factor : (n : Int) < 2 ^ p := by exact_mod_cast Nat.lt_of_mul_lt_mul_right bound
    rcases Int.natAbs_eq a with positive | negative
    · refine ⟨n, k, by rwa [Nat.abs_cast], ?_⟩
      rw [positive, magnitude]
      push_cast
      ring
    · refine ⟨-n, k, by rwa [abs_neg, Nat.abs_cast], ?_⟩
      rw [negative, magnitude]
      push_cast
      ring

/-- The scalars of at most `p` significant bits are those that the shortening keeps (R249). -/
theorem nearestOfBits_eq_self_iff (p : Nat) (a : Int) : nearestOfBits p a = a ↔ significantBits p a := by
  rw [nearestOfBits_eq_iff, significantBits_iff]

/-- The shortening of a scalar does not leave the range of magnitudes (R223). -/
theorem nearestMagnitude_le {p : Nat} (precision : 0 < p) {a : Int} (scalar : a.natAbs ≤ 2 ^ 63) :
    nearestMagnitude p a ≤ 2 ^ 63 := by
  have width : Nat.size a.natAbs ≤ 64 := Nat.size_le.2 (scalar.trans_lt (by norm_num))
  have factors : 2 ^ 63 = 2 ^ (63 - (Nat.size a.natAbs - p)) * 2 ^ (Nat.size a.natAbs - p) := by
    rw [← pow_add]
    exact congrArg _ (by omega)
  rw [nearestMagnitude]
  conv_rhs => rw [factors]
  refine Nat.mul_le_mul_right _ (roundShift_le ?_)
  rwa [← factors]

/-- The magnitude of a word is at most `2^63` (R4). -/
theorem natAbs_toInt_le (u : Word) : u.toInt.natAbs ≤ 2 ^ 63 := by
  have lo := BitVec.le_two_mul_toInt (x := u)
  have hi := BitVec.two_mul_toInt_lt (x := u)
  omega

/-- The shortened scalar saturates upwards only (R249). -/
theorem clampRaw_nearestOfBits {p : Nat} (precision : 0 < p) (u : Word) :
    clampRaw (nearestOfBits p u.toInt) = min (nearestOfBits p u.toInt) 9223372036854775807 := by
  have bound := nearestMagnitude_le precision (natAbs_toInt_le u)
  have lower : -9223372036854775808 ≤ nearestOfBits p u.toInt := by
    rw [nearestOfBits_eq_sign_mul]
    rcases Int.sign_trichotomy u.toInt with sign | sign | sign <;> rw [sign] <;> omega
  unfold clampRaw
  omega

/-- `MAX` is shortened to the next power of two. -/
theorem nearestOfBits_max : nearestOfBits 53 9223372036854775807 = 9223372036854775808 := by
  have size : Nat.size 9223372036854775807 = 63 :=
    le_antisymm (Nat.size_le.2 (by norm_num)) (Nat.lt_size.2 (by norm_num))
  have magnitude : Int.natAbs 9223372036854775807 = 9223372036854775807 := rfl
  rw [nearestOfBits_eq_sign_mul, nearestMagnitude, magnitude, size]
  decide

/-! ### The commands -/

section

variable {s : State} (latch : s.LatchAgrees)
include latch

theorem exec_cvttF32 : exec .cvttF32 s = .next (s.afterValue (floatEncode binary32 s.a.toInt)) :=
  congrArg _ (completeValue_of_latchAgrees_unary latch fun a => (floatEncode binary32 a : Int))

theorem exec_cvttF64 : exec .cvttF64 s = .next (s.afterValue (floatEncode binary64 s.a.toInt)) :=
  congrArg _ (completeValue_of_latchAgrees_unary latch fun a => (floatEncode binary64 a : Int))

end

/-- Settles O50: the facts of the encoder for both formats, at a word. -/
theorem convertToFloats : Obligations.ConvertToFloats := by
  refine ⟨rfl, rfl, rfl, rfl, fun s latch => ?_⟩
  have scalar := natAbs_toInt_le s.a
  exact ⟨exec_cvttF32 latch, exec_cvttF64 latch,
    floatEncode_lt binary32_holdsScalars scalar, floatEncode_lt binary64_holdsScalars scalar,
    imageRational_floatEncode binary32_holdsScalars scalar,
    imageRational_floatEncode binary64_holdsScalars scalar,
    fun nonzero => ⟨imageNormal_floatEncode binary32_holdsScalars scalar (BitVec.toInt_ne.2 nonzero),
      imageNormal_floatEncode binary64_holdsScalars scalar (BitVec.toInt_ne.2 nonzero)⟩⟩

/-- The result of a value command is the word of `v` exactly if it is `v`, in the range of a word. -/
theorem ofInt_clampRaw_eq_iff (v : Int) (u : Word) :
    BitVec.ofInt 64 (clampRaw v) = u ↔ clampRaw v = u.toInt := by
  obtain ⟨lo, hi⟩ := sat64_range v
  rw [sat64_eq_clampRaw] at lo hi
  constructor
  · rintro rfl
    exact (s64_u64 _ lo hi).symm
  · intro same
    rw [same, BitVec.ofInt_toInt]

/-- An image that fits into a word is read back from it. -/
theorem toNat_ofInt_natCast {n : Nat} (bound : n < 2 ^ 64) : (BitVec.ofInt 64 n : Word).toNat = n := by
  rw [BitVec.ofInt_natCast, BitVec.toNat_ofNat, Nat.mod_eq_of_lt bound]

/-- Through binary64 and back, `R` is the shortened scalar, saturated. -/
theorem roundTrip_binary64 {s : State} (idle : s.issued = none) :
    ∃ t, exec .cvttF64 s = .next t ∧
      exec .cvtfF64 { s with a := t.r } =
        .next ({ s with a := t.r }.afterValue (clampRaw (nearestOfBits 53 s.a.toInt))) := by
  have scalar := natAbs_toInt_le s.a
  refine ⟨_, exec_cvttF64 (.inl idle), ?_⟩
  have back := exec_cvtfF64
    (s := { s with a := BitVec.ofInt 64 (floatEncode binary64 s.a.toInt) }) (.inl idle)
  rw [toNat_ofInt_natCast (floatEncode_lt binary64_holdsScalars scalar),
    floatToFix_floatDecode_floatEncode binary64_holdsScalars scalar] at back
  exact back

/-- Through binary32 and back, `R` is the shortened scalar, saturated. -/
theorem roundTrip_binary32 {s : State} (idle : s.issued = none) :
    ∃ t, exec .cvttF32 s = .next t ∧
      exec .cvtfF32 { s with a := t.r } =
        .next ({ s with a := t.r }.afterValue (clampRaw (nearestOfBits 24 s.a.toInt))) := by
  have scalar := natAbs_toInt_le s.a
  have image : floatEncode binary32 s.a.toInt < 2 ^ 32 := floatEncode_lt binary32_holdsScalars scalar
  refine ⟨_, exec_cvttF32 (.inl idle), ?_⟩
  have back := exec_cvtfF32
    (s := { s with a := BitVec.ofInt 64 (floatEncode binary32 s.a.toInt) }) (.inl idle)
  rw [toNat_ofInt_natCast (image.trans (by norm_num)), Nat.mod_eq_of_lt image,
    floatToFix_floatDecode_floatEncode binary32_holdsScalars scalar] at back
  exact back

/-- Settles O52: the shortened scalar is the operand, or saturates to it. -/
theorem roundTripThroughBinary64 : Obligations.RoundTripThroughBinary64 := by
  intro s idle
  obtain ⟨t, out, back⟩ := roundTrip_binary64 idle
  refine ⟨t, _, out, back, ?_⟩
  show BitVec.ofInt 64 _ = s.a ↔ _
  have hi := BitVec.two_mul_toInt_lt (x := s.a)
  have atMax : s.a.toInt = 9223372036854775807 → nearestOfBits 53 s.a.toInt = 9223372036854775808 := by
    intro max
    rw [max, nearestOfBits_max]
  rw [ofInt_clampRaw_eq_iff, clampRaw_nearestOfBits (by decide), ← nearestOfBits_eq_self_iff]
  omega

/-- Settles O53: the shortened scalar is the operand, which does not saturate. -/
theorem roundTripThroughBinary32 : Obligations.RoundTripThroughBinary32 := by
  intro s idle significant
  obtain ⟨t, out, back⟩ := roundTrip_binary32 idle
  refine ⟨t, _, out, back, ?_⟩
  show BitVec.ofInt 64 _ = s.a
  have hi := BitVec.two_mul_toInt_lt (x := s.a)
  rw [ofInt_clampRaw_eq_iff, clampRaw_nearestOfBits (by decide),
    (nearestOfBits_eq_self_iff 24 s.a.toInt).2 significant]
  omega

end Sys2Proof.Machine
end
